-- ==== Sys2Proof/Word.lean ====
section
/-! DEFINITION. The word types of the ZT416: the character of a station link and the wider fields made of characters. -/

namespace Sys2Proof

/-- One character of a station link (R142). -/
abbrev Byte := BitVec 8

/-- A two-byte field: block id, generation, epoch (R164). -/
abbrev Word16 := BitVec 16

/-- A four-byte field (R164). -/
abbrev Word32 := BitVec 32

/-- The check value of a FIXED block, compared for equality only (R5). -/
abbrev CheckValue := BitVec 64

/-- A set of slots, bit n for Kn (R164, slot set). -/
abbrev SlotSet := BitVec 6

/-- A set of links, bit n for SLn. -/
abbrev LinkSet := BitVec 8

end Sys2Proof
end

