-- ==== Sys2Proof/Syntax.lean ====
section
/-! DEFINITION. The commands of the ZT416: one constructor of `Instr` for each row of spec/opcode_table.json. -/

namespace Sys2Proof

/-- Station links SL0 to SL7. -/
abbrev LinkId := Fin 8

/-- Slots K0 to K5. -/
abbrev SlotId := Fin 6

/-- Format numbers F0 to F31. -/
abbrev FormatNo := Fin 32

/-- Event counters M0 to M3. -/
abbrev CounterNo := Fin 4

/-- The 27 request kinds of R163, section 11.2. -/
inductive ReqKind where
  | ident | statusRead | slotRead
  | manifestBegin | manifestPart | manifestEnd
  | lineChange | lineExtend | lineAbandon | serviceEnter | serviceLeave | lineRestart | attentionClear
  | formatOpen | entryAdd | entryDrop | formatSet | formatSeal | formatDiscard | formatRetire | formatRead | entryRead
  | planWrite | planRead
  | monitorSet | monitorRead | tripClear
deriving DecidableEq, Repr

/-- How a seal operation ended: with success, or at the step that failed its read-back (R13). -/
inductive SealOutcome where
  | success
  | eraseFailed   -- step 1
  | writeFailed   -- step 2
  | markFailed    -- step 3
  | tableFailed   -- step 4, after the seal mark: the seal has succeeded
deriving DecidableEq, Repr

/-- How a retire-erase ended (R14). -/
inductive RetireOutcome where
  | success
  | markFailed    -- step 1
  | eraseFailed   -- step 2, after the retired mark
deriving DecidableEq, Repr

/-- How a plan write ended (R15). -/
inductive PlanOutcome where
  | success
  | eraseFailed      -- step 1
  | writeFailed      -- step 2
  | markFailed       -- step 3
  | oldEraseFailed   -- step 4, after the valid mark: the write has succeeded
deriving DecidableEq, Repr

/-- One command. A request carries the link it arrives on and the payload bytes of its frame (R144, R163).
`stepsDone` says how many steps of an operation in flight were complete when it was stopped (R12);
`eraseFails` and `failA`, `failB` say which erases of the scan, if it makes them, fail their read-back (R18). -/
inductive Instr where
  | powerOn (stepsDone : Nat) (eraseFails : List FormatNo)
  | pinReset (stepsDone : Nat)
  | pinResetRelease (eraseFails : List FormatNo)
  | scanEnd (failA failB : Bool)
  | linkBreak (link : LinkId)
  | frameGapTimeout (link : LinkId)
  | crcMismatch (link : LinkId)
  | unknown (link : LinkId) (kind : Byte) (payload : List Byte)
  | transmitComplete (link : LinkId)
  | ident (link : LinkId) (payload : List Byte)
  | statusRead (link : LinkId) (payload : List Byte)
  | slotRead (link : LinkId) (payload : List Byte)
  | manifestBegin (link : LinkId) (payload : List Byte)
  | manifestPart (link : LinkId) (payload : List Byte)
  | manifestEnd (link : LinkId) (payload : List Byte)
  | comparisonEnd
  | presentationTimerExpiry (slot : SlotId)
  | settleTimerExpiry
  | idleTimerExpiry
  | residencyTick
  | lineChange (link : LinkId) (payload : List Byte)
  | lineExtend (link : LinkId) (payload : List Byte)
  | lineAbandon (link : LinkId) (payload : List Byte)
  | serviceEnter (link : LinkId) (payload : List Byte)
  | serviceLeave (link : LinkId) (payload : List Byte)
  | lineRestart (link : LinkId) (payload : List Byte)
  | attentionClear (link : LinkId) (payload : List Byte)
  | formatOpen (link : LinkId) (payload : List Byte)
  | entryAdd (link : LinkId) (payload : List Byte)
  | entryDrop (link : LinkId) (payload : List Byte)
  | formatSet (link : LinkId) (payload : List Byte)
  | formatSeal (link : LinkId) (payload : List Byte)
  | sealCompletion (outcome : SealOutcome)
  | formatDiscard (link : LinkId) (payload : List Byte)
  | formatRetire (link : LinkId) (payload : List Byte)
  | retireEraseCompletion (outcome : RetireOutcome)
  | formatRead (link : LinkId) (payload : List Byte)
  | entryRead (link : LinkId) (payload : List Byte)
  | planWrite (link : LinkId) (payload : List Byte)
  | planWriteCompletion (outcome : PlanOutcome)
  | planRead (link : LinkId) (payload : List Byte)
  | monitorSet (link : LinkId) (payload : List Byte)
  | tripClear (link : LinkId) (payload : List Byte)
  | monitorRead (link : LinkId) (payload : List Byte)
  | characterReceived (link : LinkId) (char : Byte) (stopBitHigh : Bool)
  | linkLineReturnsHigh (link : LinkId)
  | rateStrapChange (rate1 rate0 : Bool)
deriving DecidableEq, Repr

/-- The payload a request brings; no bytes for any other command. -/
def Instr.payload : Instr → List Byte
  | .unknown _ _ p | .ident _ p | .statusRead _ p | .slotRead _ p | .manifestBegin _ p | .manifestPart _ p
  | .manifestEnd _ p | .lineChange _ p | .lineExtend _ p | .lineAbandon _ p | .serviceEnter _ p | .serviceLeave _ p
  | .lineRestart _ p | .attentionClear _ p | .formatOpen _ p | .entryAdd _ p | .entryDrop _ p | .formatSet _ p
  | .formatSeal _ p | .formatDiscard _ p | .formatRetire _ p | .formatRead _ p | .entryRead _ p | .planWrite _ p
  | .planRead _ p | .monitorSet _ p | .tripClear _ p | .monitorRead _ p => p
  | .powerOn _ _ | .pinReset _ | .pinResetRelease _ | .scanEnd _ _ | .linkBreak _ | .frameGapTimeout _ | .crcMismatch _
  | .transmitComplete _ | .comparisonEnd | .presentationTimerExpiry _ | .settleTimerExpiry | .idleTimerExpiry
  | .residencyTick | .sealCompletion _ | .retireEraseCompletion _ | .planWriteCompletion _ | .characterReceived _ _ _
  | .linkLineReturnsHigh _ | .rateStrapChange _ _ => []

end Sys2Proof
end

