-- ==== Sys2Proof/Decode.lean ====
section
/-! DEFINITION. The decoder of table words. No row of spec/opcode_table.json has bits (every row's "fields" is empty and
none has "fixed"), so no word spells a command. How characters spell requests is Machine/Links.lean. -/

namespace Sys2Proof

/-- The command a word spells by the table's bits: none, since the table gives no row any. -/
def decodeTableWord (_nbits _w : Nat) : Option Instr := none

end Sys2Proof
end

