-- ==== Sys2Proof/Machine/State.lean ====
section
/-! DEFINITION. The state of the ZT416 as plain data (spec/00_scope.md 2.4), the reasons a step can stop, and the
machine right after reset. -/

namespace Sys2Proof.Machine

/-! ## Station links (R142 to R156) -/

/-- Result codes (R148, section 11.2). -/
inductive Result where
  | done | adjusted | busy | role | phase | range | order | full | state | frozen | unknown | superseded | storeFault
  | length
deriving DecidableEq, Repr

/-- A response: the KIND of the request it answers, its result and its payload (R163). -/
structure Response where
  kind : Byte
  result : Result
  payload : List Byte
deriving DecidableEq, Repr

/-- The frame receiver (R143). In BODY: the LEN taken, and the characters since (KIND, payload, CRC), in order. -/
inductive Receiver where
  | hunt
  | length
  | body (len : Nat) (chars : List Byte)
deriving DecidableEq, Repr

/-- Where the service of a request stands (R146). -/
inductive Progress where
  | awaiting                 -- its response is still to be produced
  | ready (r : Response)     -- its response waits for the transmitter
  | sending                  -- its response is on LTXn
deriving DecidableEq, Repr

/-- The request in service on a link (R146). -/
structure Service where
  kind : Byte
  progress : Progress
deriving DecidableEq, Repr

/-- The frame a transmitter is sending, CRC included, and whether it is a BUSY answer (R147). -/
structure Transmission where
  isBusy : Bool
  chars : List Byte
deriving DecidableEq, Repr

/-- One link interface (R143 to R147). Its role is the line plan's (R152). -/
structure Link where
  rx : Receiver
  /-- Milliseconds since the previous character, while in LENGTH or BODY (R143). -/
  gap : Nat
  /-- LRXn has stayed low since a break was taken (R145). -/
  lineLow : Bool
  service : Option Service
  /-- The KIND of the BUSY answer that waits (R147). -/
  busySlot : Option Byte
  tx : Option Transmission
deriving DecidableEq, Repr

/-- The role of a link in a line plan (R16). -/
inductive Role where
  | unbound
  | engineering
  | supervisor
  | controller (slot : SlotId)
deriving DecidableEq, Repr

/-- A line plan: one role for each link (R16). -/
abbrev Plan := Vector Role 8

/-! ## Reference store (R1 to R19) -/

inductive FormatKind where
  | production | service
deriving DecidableEq, Repr

/-- The four states of a format record (R2); `opened` is OPEN. -/
inductive FormatState where
  | empty | opened | sealing | sealed
deriving DecidableEq, Repr

inductive Presence where
  | required | optional
deriving DecidableEq, Repr

/-- The kind of a reference entry with the fields of that kind (R5). -/
inductive RefValue where
  | fixed (check : CheckValue)
  | tunable (nominal : Int) (blo bhi floor wlo whi : Nat) (lo hi : Int)
deriving DecidableEq, Repr

/-- A reference entry (R5). Its slot is the list it stands in. -/
structure RefEntry where
  id : Word16
  presence : Presence
  value : RefValue
deriving DecidableEq, Repr

/-- A format record (R1). Its number is its place in the table; its generation is held apart (R4). -/
structure FormatRecord where
  kind : FormatKind
  state : FormatState
  tag : List Byte
  settle : Nat
  interval : Nat
  lists : Vector (List RefEntry) 6
deriving DecidableEq, Repr

/-- The stored record of a sealed format (R11). -/
structure SealedRecord where
  kind : FormatKind
  tag : List Byte
  settle : Nat
  interval : Nat
  generation : Word16
  lists : Vector (List RefEntry) 6
deriving DecidableEq, Repr

/-- The condition of a format record area (R11). -/
inductive FormatArea where
  | blank
  | written                     -- without seal mark
  | sealed (stored : SealedRecord)
  | sealedBad                   -- sealed, record check failed
  | retired                     -- carrying a retired mark
deriving DecidableEq, Repr

/-- A turn number, 1 to 3 (R11). -/
inductive Turn where
  | one | two | three
deriving DecidableEq, Repr

/-- The condition of a plan area (R11). -/
inductive PlanArea where
  | blank
  | written                     -- without valid mark
  | valid (plan : Plan) (turn : Turn)
  | validBad                    -- valid mark, record check failed
deriving DecidableEq, Repr

inductive PlanAreaId where
  | a | b
deriving DecidableEq, Repr

/-- The operation kinds of the program engine (R12). -/
inductive Job where
  | seal (format : FormatNo)
  | retireErase (format : FormatNo)
  | planWrite (plan : Plan)
deriving DecidableEq, Repr

/-- The operation in flight and the link that awaits its response; no link when that link has broken (R12). -/
structure Operation where
  job : Job
  claimant : Option LinkId
deriving DecidableEq, Repr

/-! ## Enrollment (R20 to R22) -/

/-- The enrollment context. The idle timer has milliseconds left, or is suspended. -/
structure EnrollContext where
  format : FormatNo
  owner : LinkId
  idle : Option Nat
deriving DecidableEq, Repr

/-! ## Classes and manifests (R48 to R60) -/

/-- The eight block classes (R48). -/
inductive BlockClass where
  | matched | inband | offband | altered | absent | unset | missing | extra
deriving DecidableEq, Repr

/-- Where a class came from (R53). -/
inductive Origin where
  | both | refOnly | manifestOnly
deriving DecidableEq, Repr

/-- One record of the class sequence of a verification (R53). -/
structure ClassRecord where
  id : Word16
  cls : BlockClass
  score : Option Nat
  origin : Origin
deriving DecidableEq, Repr

/-- What a controller reports for a block (R60). -/
inductive Report where
  | check (value : CheckValue)
  | value (v : Int)
  | unset
deriving DecidableEq, Repr

/-- A manifest entry (R60). -/
structure ManifestEntry where
  id : Word16
  report : Report
deriving DecidableEq, Repr

/-- What MANIFEST-END fixed and handed to the comparator (R67, R69). `lost` is set when the format is retired: the
records classed by then and the rest of the manifest, against which the list is exhausted (R9, R52). -/
structure Verification where
  slot : SlotId
  manifest : List ManifestEntry
  format : FormatNo
  generation : Word16
  epoch : Word16
  lost : Option (List ClassRecord × List ManifestEntry)
deriving DecidableEq, Repr

/-- An assembly buffer (R59); `assembling` is OPEN. -/
inductive Buffer where
  | idle
  | assembling (declared : Nat) (entries : List ManifestEntry)
  | verifying (v : Verification)
deriving DecidableEq, Repr

/-! ## Slot trackers (R80) -/

/-- The nine verdicts (R81). -/
inductive Verdict where
  | none | pending | outside | parked | cleared | trimmed | stale | lapsed | refused
deriving DecidableEq, Repr

/-- The eight class counts (R54). -/
structure ClassCounts where
  matched : Nat
  inband : Nat
  offband : Nat
  altered : Nat
  absent : Nat
  unset : Nat
  missing : Nat
  extra : Nat
deriving DecidableEq, Repr

/-- The summary of a verification (R58, R92): what MANIFEST-END answers and SLOT-READ shows. -/
structure Summary where
  verdict : Verdict
  format : FormatNo
  generation : Word16
  counts : ClassCounts
  firstBlock : Word16
  firstClass : Option BlockClass
  highest : Nat
deriving DecidableEq, Repr

/-- Class memory: its tag and its records (R80). -/
structure ClassMemory where
  format : FormatNo
  generation : Word16
  records : List (Word16 × BlockClass)
deriving DecidableEq, Repr

/-- One slot tracker (R80). The timer has milliseconds left, or is stopped. -/
structure Slot where
  verdict : Verdict
  permit : Bool
  hold : Bool
  timer : Option Nat
  memory : Option ClassMemory
  summary : Option Summary
deriving DecidableEq, Repr

/-! ## Line phase controller (R95, R100, R115) -/

inductive Cause where
  | order | serviceReturn
deriving DecidableEq, Repr

/-- The changeover context (R100), but for the settle timer. -/
structure Changeover where
  target : FormatNo
  targetGen : Word16
  origin : FormatNo
  originGen : Word16
  cause : Cause
  participants : SlotSet
  ready : SlotSet
  extensions : Nat
deriving DecidableEq, Repr

/-- The line phase together with the context that exists in it (R95): the changeover context in CHANGEOVER (with the
milliseconds left of the settle timer) and STALLED, kept set and return format in SERVICE. -/
inductive Line where
  | noFormat
  | run
  | changeover (ctx : Changeover) (settle : Nat)
  | stalled (ctx : Changeover)
  | service (kept : SlotSet) (ret : FormatNo) (retGen : Word16)
deriving DecidableEq, Repr

/-! ## Drift monitor (R126, R127) -/

inductive Action where
  | note | freeze | drop
deriving DecidableEq, Repr

/-- One event counter (R126). Event set and slot filter are the bit sets of R164 (filter bit 6: "unattributed"). -/
structure Counter where
  value : BitVec 24
  flag : Bool
  enable : Bool
  events : BitVec 12
  filter : BitVec 7
  threshold : Byte
  invert : Bool
  edge : Bool
  action : Action
deriving DecidableEq, Repr

/-- An event sent to the monitor with what it carries (R127). -/
inductive MonitorEvent where
  | block (slot : SlotId) (id : Word16) (cls : BlockClass) (score : Option Nat) (prior : Option BlockClass)
  | verdictRefused (slot : SlotId) (prior : Verdict)
  | stale (slot : SlotId)
  | lapsed (slot : SlotId)
  | stall
  | abandon
deriving DecidableEq, Repr

/-- The attention flags, in the order of their bits (R158, R164). -/
inductive Flag where
  | commit | stall | abandon | seal | refuse | stale | lapse | trip | store
deriving DecidableEq, Repr

/-! ## The whole part -/

/-- RESET_N and the start-up scan (R17): RESET_N held low, the scan running, or the part in service. -/
inductive Stage where
  | held | scanning | running
deriving DecidableEq, Repr

/-- Everything the spec gives the part, the queue of waiting commands, and the index of the next free value. -/
structure State where
  /-- The commands that wait, first in, first out. -/
  pending : List Instr
  stage : Stage
  /-- The rate straps RATE1 and RATE0 (R142). -/
  rate1 : Bool
  rate0 : Bool
  links : Vector Link 8
  /-- The line plan in force, which is also what the link interfaces hold as their roles (R152). -/
  plan : Plan
  /-- F0 to F31; the record of F0 is hard-wired and read through `State.fmt` (R1). -/
  formats : Vector FormatRecord 32
  /-- The generation of each number; that of F0 is read as 0 (R4). -/
  gens : Vector Word16 32
  poolFree : Nat
  engine : Option Operation
  /-- Nonvolatile (R11): generation table, its check, the record areas (no area for F0), the plan areas. -/
  genTable : Vector Word16 32
  genTableGood : Bool
  areas : Vector FormatArea 32
  planA : PlanArea
  planB : PlanArea
  /-- The current plan area; none while the default plan is in force (R15, R19). -/
  planCurrent : Option PlanAreaId
  enroll : Option EnrollContext
  buffers : Vector Buffer 8
  /-- The comparator's queue, oldest first, as the links whose buffers hold the verifications (R75). -/
  queue : List LinkId
  comparing : Option LinkId
  slots : Vector Slot 6
  line : Line
  active : FormatNo
  epoch : Word16
  /-- The plan-pending marker (R110): a plan write in flight; rebound links whose verification has not ended. -/
  planWriting : Bool
  planWaits : LinkSet
  counters : Vector Counter 4
  /-- Residency counters of NOFORMAT, RUN, CHANGEOVER, STALLED, SERVICE (R140). -/
  residency : Vector Word32 5
  /-- Milliseconds since the last tick of the 1 s timebase (R140). -/
  timebase : Nat
  /-- The nine attention flags, bits 0 to 8 in the order of R164. -/
  attention : BitVec 9
  /-- The model's own: how many free values have been used. -/
  freeIndex : Nat
deriving DecidableEq, Repr

/-- No command stops the part with a fault: it has no exception, and each error is a result code (R148), an attention
flag (R158) or a silent discard (R144). Nothing raises one, so the type has no constructor. -/
inductive Fault where
deriving DecidableEq, Repr

/-- Reasons to give no meaning. -/
inductive Refusal where
  /-- Raised by an arm of `exec` whose command has no meaning yet (none has); safe, the model stops. -/
  | notModelled (mnemonic : String)
deriving DecidableEq, Repr

/-! ## Values after reset -/

/-- A link interface after power-on and pin reset, its line high (R156). -/
def Link.atReset : Link :=
  { rx := .hunt, gap := 0, lineLow := false, service := none, busySlot := none, tx := none }

/-- An EMPTY record as it reads (R1). -/
def FormatRecord.blank : FormatRecord :=
  { kind := .production, state := .empty, tag := [], settle := 60, interval := 30, lists := Vector.replicate 6 [] }

/-- The hard-wired record of F0 (R1). -/
def FormatRecord.f0 : FormatRecord := { FormatRecord.blank with state := .sealed }

/-- A slot tracker after power-on and pin reset (R94). -/
def Slot.atReset : Slot :=
  { verdict := .none, permit := false, hold := false, timer := none, memory := none, summary := none }

/-- A counter after power-on and pin reset (R141). -/
def Counter.atReset : Counter :=
  { value := 0, flag := false, enable := false, events := 0, filter := 0, threshold := 0, invert := false, edge := false,
    action := .note }

/-- The machine right after power-on with storage that holds nothing, its start-up scan running (R17, R18, R40, R74,
R94, R114, R141, R156, R162). The storage, the straps and the roles before the scan's end: logs 1, 2, 14. -/
def State.reset : State :=
  { pending := [], stage := .scanning, rate1 := false, rate0 := false,
    links := Vector.replicate 8 Link.atReset, plan := Vector.replicate 8 .unbound,
    formats := Vector.replicate 32 FormatRecord.blank, gens := Vector.replicate 32 0, poolFree := 2048, engine := none,
    genTable := Vector.replicate 32 0, genTableGood := true, areas := Vector.replicate 32 .blank,
    planA := .blank, planB := .blank, planCurrent := none,
    enroll := none, buffers := Vector.replicate 8 .idle, queue := [], comparing := none,
    slots := Vector.replicate 6 Slot.atReset,
    line := .noFormat, active := 0, epoch := 0, planWriting := false, planWaits := 0,
    counters := Vector.replicate 4 Counter.atReset, residency := Vector.replicate 5 0, timebase := 0,
    attention := 0, freeIndex := 0 }

end Sys2Proof.Machine
end

