-- ==== Sys2Proof/Machine/Flags.lean ====
section
/-! DEFINITION. Attention flags and ATTN_N (R158, R159), custody freeze (R134), DROP holds (R135) and the permit rule
(R90): what is derived from the flags and settings, and how a flag is set. -/

namespace Sys2Proof.Machine

/-! ## Attention (R158, R159) -/

/-- The bit of an attention flag (R164). -/
def Flag.bit : Flag → Nat
  | .commit => 0
  | .stall => 1
  | .abandon => 2
  | .seal => 3
  | .refuse => 4
  | .stale => 5
  | .lapse => 6
  | .trip => 7
  | .store => 8

/-- Sets one attention flag; a flag already set stays set (R158). -/
def State.raise (f : Flag) (s : State) : State := { s with attention := s.attention ||| BitVec.twoPow 9 f.bit }

/-- Sets a flag when its cause is present. -/
def State.raiseIf (c : Bool) (f : Flag) (s : State) : State := if c then s.raise f else s

/-- Whether a flag is set. -/
def State.flagged (s : State) (f : Flag) : Bool := s.attention.getLsbD f.bit

/-- ATTN_N is driven low while a flag is set and released while all nine are clear (R159). -/
def State.attnLow (s : State) : Bool := s.attention != 0

/-! ## Custody freeze and DROP holds (R133 to R135) -/

/-- A tripped counter of the given action: enabled, its overflow flag set. -/
def Counter.trippedAs (c : Counter) (a : Action) : Bool := c.enable && c.flag && c.action == a

/-- Custody is frozen exactly while some enabled FREEZE counter has its overflow flag set (R134). -/
def State.frozen (s : State) : Bool := s.counters.toList.any (fun c => c.trippedAs .freeze)

/-- A slot is held while an enabled DROP counter with its flag set has the slot in its filter (R135). -/
def State.held (s : State) (k : SlotId) : Bool :=
  s.counters.toList.any (fun c => c.trippedAs .drop && c.filter.getLsbD k.val)

/-! ## Permits (R81, R90) -/

/-- The releasing verdicts (R81). -/
def Verdict.releases : Verdict → Bool
  | .cleared | .trimmed | .stale => true
  | .none | .pending | .outside | .parked | .lapsed | .refused => false

/-- The phases in which a permit may be high (R90, R95). -/
def Line.permits : Line → Bool
  | .run | .service .. => true
  | .noFormat | .changeover .. | .stalled _ => false

/-- The level R90 gives a permit. -/
def permitLevel (line : Line) (v : Verdict) (hold : Bool) : Bool := line.permits && v.releases && !hold

/-- The slot trackers take the holds as the monitor reports them and evaluate their permits (R90, R91). -/
def State.evalPermits (s : State) : State :=
  { s with
    slots := Vector.ofFn fun k =>
      { s.slots[k] with hold := s.held k, permit := permitLevel s.line s.slots[k].verdict (s.held k) } }

/-! ## Bit sets of slots and links -/

/-- The set of the slots for which `f` holds. -/
def slotsWhere (f : SlotId → Bool) : SlotSet := BitVec.ofBoolListLE [f 0, f 1, f 2, f 3, f 4, f 5]

/-- The set of the links for which `f` holds. -/
def linksWhere (f : LinkId → Bool) : LinkSet := BitVec.ofBoolListLE [f 0, f 1, f 2, f 3, f 4, f 5, f 6, f 7]

/-- Whether a slot is in a set. -/
def inSet (x : SlotSet) (k : SlotId) : Bool := x.getLsbD k.val

end Sys2Proof.Machine
end

