-- ==== Sys2Proof/Config.lean ====
section
/-! DEFINITION. The free values: what the manual leaves open while the part goes on. None has a body, so a claim holds
whatever they are. A counter of State (`freeIndex`) makes each use its own. -/

namespace Sys2Proof

/-- How many blocks a walk under way had examined when its format was retired (R52 fixes no number; log 15). -/
opaque Config.walkProgress : Nat → Nat

/-- Whether the generation table's check is good after an entry was written into a table whose check had failed
(R11, R13 and R18 do not say; log 10). -/
opaque Config.tableCheckAfterWrite : Nat → Bool

/-- The third character of an answer to a KIND of 0x80 or more, where KIND + 0x80 does not fit one character
(R163 states no result; log 7). -/
opaque Config.kindOverflow : Byte → Byte

end Sys2Proof
end

