-- ==== Sys2Proof/Machine/Operands.lean ====
section
/-! DEFINITION. Frames, payload fields and code tables (spec/11_frame_and_record_layouts.md, R163 and R164): every
field a request carries and every byte a response holds is read and written here. -/

namespace Sys2Proof.Machine

/-! ## Reading fields, most significant byte first (R164) -/

/-- Byte `i` of a payload. -/
def byteAt (p : List Byte) (i : Nat) : Byte := p.getD i 0

/-- A two-byte field at `i`. -/
def half (p : List Byte) (i : Nat) : Word16 := byteAt p i ++ byteAt p (i + 1)

/-- A four-byte field at `i`. -/
def quad (p : List Byte) (i : Nat) : Word32 := half p i ++ half p (i + 2)

/-- An eight-byte field at `i`. -/
def octet (p : List Byte) (i : Nat) : CheckValue := quad p i ++ quad p (i + 4)

/-! ## Writing fields -/

/-- A two-byte field. -/
def bytes2 (x : Word16) : List Byte := [x.extractLsb' 8 8, x.extractLsb' 0 8]

/-- A four-byte field. -/
def bytes4 (x : Word32) : List Byte := bytes2 (x.extractLsb' 16 16) ++ bytes2 (x.extractLsb' 0 16)

/-- An eight-byte field. -/
def bytes8 (x : CheckValue) : List Byte := bytes4 (x.extractLsb' 32 32) ++ bytes4 (x.extractLsb' 0 32)

/-- A count in one byte. -/
def num1 (n : Nat) : List Byte := [BitVec.ofNat 8 n]

/-- A count in two bytes. -/
def num2 (n : Nat) : List Byte := bytes2 (BitVec.ofNat 16 n)

/-- An unsigned quantity in four bytes. -/
def num4 (n : Nat) : List Byte := bytes4 (BitVec.ofNat 32 n)

/-- A signed quantity in four bytes, two's complement. -/
def int4 (z : Int) : List Byte := bytes4 (BitVec.ofInt 32 z)

/-- off/on, clear/set, low/high, idle/busy (R164). -/
def bool1 (b : Bool) : List Byte := [if b then 1 else 0]

/-- A bit set of at most eight members in one byte. -/
def set1 {w : Nat} (x : BitVec w) : List Byte := [x.setWidth 8]

/-- A bit set of at most sixteen members in two bytes. -/
def set2 {w : Nat} (x : BitVec w) : List Byte := bytes2 (x.setWidth 16)

/-! ## Code tables (R164) -/

/-- A slot number, 0 to 5. -/
def slotOf (b : Byte) : Option SlotId := if h : b.toNat < 6 then some ⟨b.toNat, h⟩ else none

/-- A format number, 0 to 31. -/
def formatOf (b : Byte) : Option FormatNo := if h : b.toNat < 32 then some ⟨b.toNat, h⟩ else none

/-- A number of a storable format, 1 to 31. -/
def storableOf (b : Byte) : Option FormatNo := (formatOf b).filter (· ≠ 0)

/-- A counter number, 0 to 3. -/
def counterOf (b : Byte) : Option CounterNo := if h : b.toNat < 4 then some ⟨b.toNat, h⟩ else none

/-- 0 or 1. -/
def boolOf (b : Byte) : Option Bool := if b = 0 then some false else if b = 1 then some true else none

/-- A slot set: bits 6 and 7 stand for no member. -/
def slotSetOf (b : Byte) : Option SlotSet := if b.toNat < 64 then some (b.setWidth 6) else none

def FormatKind.code : FormatKind → Byte
  | .production => 0
  | .service => 1

def formatKindOf (b : Byte) : Option FormatKind :=
  if b = 0 then some .production else if b = 1 then some .service else none

def FormatState.code : FormatState → Byte
  | .empty => 0
  | .opened => 1
  | .sealing => 2
  | .sealed => 3

def Presence.code : Presence → Byte
  | .required => 0
  | .optional => 1

def presenceOf (b : Byte) : Option Presence :=
  if b = 0 then some .required else if b = 1 then some .optional else none

def RefValue.kindCode : RefValue → Byte
  | .fixed _ => 0
  | .tunable .. => 1

def BlockClass.code : BlockClass → Byte
  | .matched => 1
  | .inband => 2
  | .offband => 3
  | .altered => 4
  | .absent => 5
  | .unset => 6
  | .missing => 7
  | .extra => 8

/-- 0 stands for "no class". -/
def classCode : Option BlockClass → Byte
  | .none => 0
  | .some c => c.code

def Verdict.code : Verdict → Byte
  | .none => 0
  | .pending => 1
  | .outside => 2
  | .parked => 3
  | .cleared => 4
  | .trimmed => 5
  | .stale => 6
  | .lapsed => 7
  | .refused => 8

def Cause.code : Cause → Byte
  | .order => 1
  | .serviceReturn => 2

def Role.code : Role → Byte
  | .unbound => 0
  | .engineering => 1
  | .supervisor => 2
  | .controller _ => 3

/-- The slot of a CONTROLLER role, 0xFF for the others. -/
def Role.slotCode : Role → Byte
  | .controller k => BitVec.ofNat 8 k.val
  | .unbound | .engineering | .supervisor => 0xFF

/-- A role byte and a slot byte, the slot byte read for CONTROLLER only (section 11.7). -/
def roleOf (role slot : Byte) : Option Role :=
  if role = 0 then some .unbound
  else if role = 1 then some .engineering
  else if role = 2 then some .supervisor
  else if role = 3 then (slotOf slot).map .controller
  else none

def Action.code : Action → Byte
  | .note => 0
  | .freeze => 1
  | .drop => 2

def actionOf (b : Byte) : Option Action :=
  if b = 0 then some .note else if b = 1 then some .freeze else if b = 2 then some .drop else none

def Line.phaseCode : Line → Byte
  | .noFormat => 0
  | .run => 1
  | .changeover .. => 2
  | .stalled _ => 3
  | .service .. => 4

def Result.code : Result → Byte
  | .done => 0x00
  | .adjusted => 0x01
  | .busy => 0x10
  | .role => 0x11
  | .phase => 0x12
  | .range => 0x13
  | .order => 0x14
  | .full => 0x15
  | .state => 0x16
  | .frozen => 0x17
  | .unknown => 0x18
  | .superseded => 0x19
  | .storeFault => 0x1A
  | .length => 0x1B

/-- Request kind codes (section 11.2). -/
def kindCode : ReqKind → Byte
  | .ident => 0x01
  | .statusRead => 0x02
  | .slotRead => 0x03
  | .manifestBegin => 0x10
  | .manifestPart => 0x11
  | .manifestEnd => 0x12
  | .lineChange => 0x20
  | .lineExtend => 0x21
  | .lineAbandon => 0x22
  | .serviceEnter => 0x23
  | .serviceLeave => 0x24
  | .lineRestart => 0x25
  | .attentionClear => 0x26
  | .formatOpen => 0x30
  | .entryAdd => 0x31
  | .entryDrop => 0x32
  | .formatSet => 0x33
  | .formatSeal => 0x34
  | .formatDiscard => 0x35
  | .formatRetire => 0x36
  | .formatRead => 0x37
  | .entryRead => 0x38
  | .planWrite => 0x39
  | .planRead => 0x3A
  | .monitorSet => 0x40
  | .monitorRead => 0x41
  | .tripClear => 0x42

/-- The 27 request kinds (R148, check 2). -/
def allKinds : List ReqKind :=
  [.ident, .statusRead, .slotRead, .manifestBegin, .manifestPart, .manifestEnd, .lineChange, .lineExtend, .lineAbandon,
   .serviceEnter, .serviceLeave, .lineRestart, .attentionClear, .formatOpen, .entryAdd, .entryDrop, .formatSet,
   .formatSeal, .formatDiscard, .formatRetire, .formatRead, .entryRead, .planWrite, .planRead, .monitorSet, .monitorRead,
   .tripClear]

/-- The request kind a KIND character names, if any. -/
def kindOf (b : Byte) : Option ReqKind := allKinds.find? (fun k => kindCode k == b)

/-- Whether LEN is allowed for the kind (R148 check 3, section 11.2; for MANIFEST-PART also R63). -/
def lengthOk (k : ReqKind) (p : List Byte) : Bool :=
  match k with
  | .ident | .statusRead | .manifestEnd | .lineExtend | .lineAbandon | .serviceLeave | .lineRestart | .planRead
  | .monitorRead => p.length == 0
  | .lineChange | .formatSeal | .formatDiscard | .formatRetire | .formatRead => p.length == 1
  | .manifestBegin | .attentionClear | .formatOpen => p.length == 2
  | .slotRead | .serviceEnter => p.length == 3
  | .entryDrop | .entryRead => p.length == 4
  | .tripClear => p.length == 5
  | .monitorSet => p.length == 13
  | .entryAdd | .planWrite => p.length == 16
  | .formatSet => p.length == 17
  | .manifestPart =>
    1 ≤ (byteAt p 0).toNat && (byteAt p 0).toNat ≤ 16 && p.length == 1 + 11 * (byteAt p 0).toNat

/-! ## The CRC-16 and response frames (R163) -/

/-- One shift of the CRC register. -/
def crcShift (c : Word16) : Word16 := if c.msb then (c <<< 1) ^^^ 0x1021 else c <<< 1

/-- The register after one covered character. -/
def crcByte (c : Word16) (b : Byte) : Word16 :=
  crcShift (crcShift (crcShift (crcShift (crcShift (crcShift (crcShift (crcShift (c ^^^ (b ++ 0#8)))))))))

/-- The CRC-16 of the covered characters. -/
def crc16 (bs : List Byte) : Word16 := bs.foldl crcByte 0xFFFF

/-- The third character of an answer: KIND + 0x80, free where that does not fit a character (log 7). -/
def answerKind (kind : Byte) : Byte := if kind < 0x80 then kind + 0x80 else Config.kindOverflow kind

/-- The characters of a response frame in the order sent. -/
def Response.frame (r : Response) : List Byte :=
  let covered := num1 r.payload.length ++ [answerKind r.kind, r.result.code] ++ r.payload
  0xC3 :: covered ++ bytes2 (crc16 covered)

/-- The BUSY answer to a request of the given KIND (R147): no payload. -/
def busyAnswer (kind : Byte) : Response := { kind := kind, result := .busy, payload := [] }

/-! ## Manifest entries (section 11.5) -/

/-- One manifest entry of 11 bytes at offset `i`; none for a report kind code that is none of the three (R60, R64). -/
def manifestEntryAt (p : List Byte) (i : Nat) : Option ManifestEntry :=
  let id := half p i
  if byteAt p (i + 2) = 1 then some { id := id, report := .check (octet p (i + 3)) }
  else if byteAt p (i + 2) = 2 then some { id := id, report := .value (quad p (i + 7)).toInt }
  else if byteAt p (i + 2) = 3 then some { id := id, report := .unset }
  else none

/-- The entries of a MANIFEST-PART payload, in order. -/
def partEntries (p : List Byte) : List (Option ManifestEntry) :=
  (List.range (byteAt p 0).toNat).map (fun j => manifestEntryAt p (1 + 11 * j))

/-! ## Records of a response -/

/-- The eight class counts in the order of R54. -/
def ClassCounts.bytes (c : ClassCounts) : List Byte :=
  num2 c.matched ++ num2 c.inband ++ num2 c.offband ++ num2 c.altered ++ num2 c.absent ++ num2 c.unset ++ num2 c.missing
    ++ num2 c.extra

/-- The verification summary of 24 bytes (section 11.5). -/
def Summary.bytes (x : Summary) : List Byte :=
  [x.verdict.code] ++ num1 x.format.val ++ bytes2 x.generation ++ x.counts.bytes ++ bytes2 x.firstBlock
    ++ [classCode x.firstClass] ++ num1 x.highest

/-- A counter's settings, 8 bytes (section 11.7). -/
def Counter.settingBytes (c : Counter) : List Byte :=
  bool1 c.enable ++ set2 c.events ++ set1 c.filter ++ [c.threshold] ++ bool1 c.invert ++ bool1 c.edge ++ [c.action.code]

/-- The settings and value a MONITOR-SET carries, or none where R137 check 3 refuses them (section 11.7). -/
def settingsOf (p : List Byte) : Option Counter := do
  let enable ← boolOf (byteAt p 1)
  let invert ← boolOf (byteAt p 6)
  let edge ← boolOf (byteAt p 7)
  let action ← actionOf (byteAt p 8)
  let events := half p 2
  let filter := byteAt p 4
  let value := quad p 9
  if events.toNat < 2 ^ 12 ∧ filter.toNat < 2 ^ 7 ∧ value.toNat < 2 ^ 24 then
    some { value := value.setWidth 24, flag := false, enable := enable, events := events.setWidth 12,
           filter := filter.setWidth 7, threshold := byteAt p 5, invert := invert, edge := edge, action := action }
  else none

/-- The 12 tag bytes, those beyond the tag 0. -/
def tagBytes (tag : List Byte) : List Byte := tag ++ List.replicate (12 - tag.length) 0

/-- The entry readout of 38 bytes (section 11.6). -/
def RefEntry.readout (e : RefEntry) (next : Word16) : List Byte :=
  [e.value.kindCode, e.presence.code] ++
    (match e.value with
     | .fixed c => bytes8 c ++ List.replicate 26 0
     | .tunable n blo bhi f wlo whi lo hi =>
       List.replicate 8 0 ++ int4 n ++ num2 blo ++ num2 bhi ++ num2 f ++ num4 wlo ++ num4 whi ++ int4 lo ++ int4 hi) ++
    bytes2 next

/-- The 16-byte form of a plan (section 11.7). -/
def Plan.bytes (plan : Plan) : List Byte := plan.toList.flatMap (fun r => [r.code, r.slotCode])

/-- The plan a PLAN-WRITE carries, or none where a code is not defined (R153 check 1). -/
def planOf (p : List Byte) : Option Plan := do
  let r0 ← roleOf (byteAt p 0) (byteAt p 1)
  let r1 ← roleOf (byteAt p 2) (byteAt p 3)
  let r2 ← roleOf (byteAt p 4) (byteAt p 5)
  let r3 ← roleOf (byteAt p 6) (byteAt p 7)
  let r4 ← roleOf (byteAt p 8) (byteAt p 9)
  let r5 ← roleOf (byteAt p 10) (byteAt p 11)
  let r6 ← roleOf (byteAt p 12) (byteAt p 13)
  let r7 ← roleOf (byteAt p 14) (byteAt p 15)
  pure #v[r0, r1, r2, r3, r4, r5, r6, r7]

end Sys2Proof.Machine
end

