-- ==== Sys2Proof/Machine/Ops.lean ====
section
/-! DEFINITION. The named operations over the state: reading and writing the format table, links, buffers and slots;
the service and transmission of responses (R146, R147); the checks a taken request goes through (R148 to R151). -/

namespace Sys2Proof.Machine

/-! ## Format table and generations (R1, R4, R7, R8) -/

/-- The record of a format; that of F0 is fixed by hardware (R1). -/
def State.fmt (s : State) (n : FormatNo) : FormatRecord := if n = 0 then FormatRecord.f0 else s.formats[n]

/-- Writes a record; F0 takes no write (R1). -/
def State.setFmt (n : FormatNo) (r : FormatRecord) (s : State) : State :=
  if n = 0 then s else { s with formats := s.formats.set n r }

/-- The generation of a number; that of F0 is 0 at all times (R4). -/
def State.genOf (s : State) (n : FormatNo) : Word16 := if n = 0 then 0 else s.gens[n]

/-- Writes a generation; F0 takes no write (R4). -/
def State.setGen (n : FormatNo) (g : Word16) (s : State) : State := if n = 0 then s else { s with gens := s.gens.set n g }

/-- Advances a generation: 65535 is followed by 1 (R4). -/
def nextGen (g : Word16) : Word16 := if g = 0xFFFF then 1 else g + 1

/-- The entries of all six lists of a record. -/
def FormatRecord.entryCount (r : FormatRecord) : Nat := (r.lists.toList.map List.length).sum

/-- The participants: the slots whose list is non-empty (R7). -/
def FormatRecord.participants (r : FormatRecord) : SlotSet := slotsWhere fun k => !r.lists[k].isEmpty

/-- The number of the pool's entries (R8). -/
def poolSize : Nat := 2048

/-- The longest reference list (R6). -/
def listLimit : Nat := 256

/-- A record goes to EMPTY and its entries return to the pool (R2, R8). -/
def State.emptyFormat (n : FormatNo) (s : State) : State :=
  { s.setFmt n FormatRecord.blank with poolFree := s.poolFree + (s.fmt n).entryCount }

/-! ## Links, buffers, slots -/

/-- One link interface. -/
def State.link (s : State) (l : LinkId) : Link := s.links[l]

/-- Writes one link interface. -/
def State.setLink (l : LinkId) (x : Link) (s : State) : State := { s with links := s.links.set l x }

/-- Writes one assembly buffer. -/
def State.setBuffer (l : LinkId) (b : Buffer) (s : State) : State := { s with buffers := s.buffers.set l b }

/-- Writes one slot tracker. -/
def State.setSlot (k : SlotId) (x : Slot) (s : State) : State := { s with slots := s.slots.set k x }

/-- The slot of a CONTROLLER role. -/
def Role.slot? : Role → Option SlotId
  | .controller k => some k
  | .unbound | .engineering | .supervisor => none

/-- The plan-pending marker (R110). -/
def State.planPending (s : State) : Bool := s.planWriting || s.planWaits != 0

/-- The target of a changeover, while there is one. -/
def Line.changeover? : Line → Option Changeover
  | .changeover c _ => some c
  | .stalled c => some c
  | .noFormat | .run | .service .. => none

/-- Whether a format number is pinned: the active format, the target in CHANGEOVER and STALLED, the return format in
SERVICE, F0 never (R10, R109). -/
def State.pinned (s : State) (n : FormatNo) : Bool :=
  n != 0 &&
    (s.active == n ||
      (match s.line with
       | .changeover c _ => c.target == n
       | .stalled c => c.target == n
       | .service _ ret _ => ret == n
       | .noFormat | .run => false))

/-! ## Timers -/

/-- Seconds as the milliseconds the timers hold. -/
def seconds (n : Nat) : Nat := 1000 * n

/-- A remaining time in whole seconds, rounded up (R93, R100). -/
def wholeSeconds (ms : Nat) : Nat := (ms + 999) / 1000

/-- The idle timer's full time, 120 s (R22). -/
def idleTime : Nat := seconds 120

/-! ## Service and transmission (R145 to R147) -/

/-- The transmitter, when free, begins the waiting response, or else the waiting BUSY answer (R147). -/
def Link.arbitrate (x : Link) : Link :=
  match x.tx with
  | some _ => x
  | none =>
    match x.service with
    | some { kind := k, progress := .ready r } =>
      { x with tx := some { isBusy := false, chars := r.frame }, service := some { kind := k, progress := .sending } }
    | _ =>
      match x.busySlot with
      | some k => { x with tx := some { isBusy := true, chars := (busyAnswer k).frame }, busySlot := none }
      | none => x

/-- A request is in service from the moment it is taken (R146). -/
def Link.begin (kind : Byte) (x : Link) : Link := { x with service := some { kind := kind, progress := .awaiting } }

/-- The response of the request in service is produced; nothing is sent when that request was abandoned (R145, R146). -/
def Link.respond (r : Result) (payload : List Byte) (x : Link) : Link :=
  match x.service with
  | some { kind := k, progress := .awaiting } =>
    { x with
      service := some { kind := k, progress := .ready { kind := k, result := r, payload := payload } } }.arbitrate
  | _ => x

/-- A request taken while another is in service: BUSY through the slot, or discarded when the slot is full (R147). -/
def Link.refuseBusy (kind : Byte) (x : Link) : Link :=
  match x.busySlot with
  | some _ => x
  | none => { x with busySlot := some kind }.arbitrate

/-- The transmitter finishes a frame; a response's last character ends the service (R146), and the next frame begins. -/
def Link.transmitted (x : Link) : Link :=
  match x.tx with
  | none => x
  | some t => { x with tx := none, service := if t.isBusy then x.service else none }.arbitrate

/-- Produces the response of the request in service on a link. -/
def State.respond (l : LinkId) (r : Result) (payload : List Byte) (s : State) : State :=
  s.setLink l ((s.link l).respond r payload)

/-- Produces the response of a long operation on the link that claimed it, if that link has not broken (R12). -/
def State.respondTo (claimant : Option LinkId) (r : Result) (payload : List Byte) (s : State) : State :=
  match claimant with
  | some l => s.respond l r payload
  | none => s

/-! ## The checks of a taken request (R148 to R151) -/

/-- What an owning block answers: a result with its payload at once, or a response at completion (R146). -/
inductive Answer where
  | reply (r : Result) (payload : List Byte)
  | later
deriving DecidableEq, Repr

/-- The role check (R149). -/
def roleMay (role : Role) (k : ReqKind) (p : List Byte) : Bool :=
  match k with
  | .ident => true
  | .statusRead => role != .unbound
  | .slotRead =>
    match role with
    | .engineering | .supervisor => true
    | .controller own => slotOf (byteAt p 0) == some own
    | .unbound => false
  | .manifestBegin | .manifestPart | .manifestEnd => role.slot?.isSome
  | .lineChange | .lineExtend | .lineAbandon | .serviceEnter | .serviceLeave | .lineRestart | .attentionClear =>
    role == .supervisor
  | .formatOpen | .entryAdd | .entryDrop | .formatSet | .formatSeal | .formatDiscard | .formatRetire | .planWrite
  | .monitorSet | .tripClear => role == .engineering
  | .formatRead | .entryRead | .planRead | .monitorRead => role == .engineering || role == .supervisor

/-- The phase check (R150); in SERVICE a MANIFEST-BEGIN needs its slot in the kept set. -/
def phaseAdmits (line : Line) (role : Role) (k : ReqKind) : Bool :=
  match k with
  | .lineChange | .serviceEnter =>
    match line with
    | .noFormat | .run => true
    | .changeover .. | .stalled _ | .service .. => false
  | .lineExtend | .lineAbandon => line.changeover?.isSome
  | .serviceLeave =>
    match line with
    | .service .. => true
    | .noFormat | .run | .changeover .. | .stalled _ => false
  | .manifestBegin =>
    match line with
    | .noFormat => false
    | .run | .changeover .. | .stalled _ => true
    | .service kept _ _ => role.slot?.any (inSet kept)
  | .planWrite => line == .noFormat
  | .ident | .statusRead | .slotRead | .manifestPart | .manifestEnd | .lineRestart | .attentionClear | .formatOpen
  | .entryAdd | .entryDrop | .formatSet | .formatSeal | .formatDiscard | .formatRetire | .formatRead | .entryRead
  | .planRead | .monitorSet | .monitorRead | .tripClear => true

/-- The kinds the freeze check refuses while custody is frozen; a LINE-CHANGE only when it names other than F0 (R151). -/
def freezeRefuses (k : ReqKind) (p : List Byte) : Bool :=
  match k with
  | .lineChange => byteAt p 0 != 0
  | .serviceEnter | .formatOpen | .entryAdd | .entryDrop | .formatSeal | .formatRetire | .planWrite => true
  | .ident | .statusRead | .slotRead | .manifestBegin | .manifestPart | .manifestEnd | .lineExtend | .lineAbandon
  | .serviceLeave | .lineRestart | .attentionClear | .formatSet | .formatDiscard | .formatRead | .entryRead | .planRead
  | .monitorSet | .monitorRead | .tripClear => false

/-- Checks 3 to 6 of R148 in their order: the first that fails, if any. -/
def State.screen (s : State) (l : LinkId) (k : ReqKind) (p : List Byte) : Option Result :=
  if !lengthOk k p then some .length
  else if !roleMay s.plan[l] k p then some .role
  else if !phaseAdmits s.line s.plan[l] k then some .phase
  else if s.frozen && freezeRefuses k p then some .frozen
  else none

/-- Whether a link takes the frames that complete on it: not before the start-up scan has ended (R144, R17), and not
while its line is still low after a break (R145). -/
def State.receives (s : State) (l : LinkId) : Bool := s.stage == .running && !(s.link l).lineLow

/-- A frame is complete and its receiver is in HUNT (R143). -/
def State.frameDone (l : LinkId) (s : State) : State := s.setLink l { s.link l with rx := .hunt, gap := 0 }

/-- A well-formed frame is taken: BUSY, or into service and on to `act` (R144, R147, R148 check 1). -/
def State.take (l : LinkId) (kind : Byte) (act : State → State) (s : State) : State :=
  let s := s.frameDone l
  if s.receives l then
    if (s.link l).service.isSome then s.setLink l ((s.link l).refuseBusy kind)
    else act (s.setLink l ((s.link l).begin kind))
  else s

/-- A request goes through checks 3 to 6 and then to its owning block, whose answer is the response (R148). -/
def State.judge (l : LinkId) (k : ReqKind) (p : List Byte) (own : State → State × Answer) (s : State) : State :=
  match s.screen l k p with
  | some r => s.respond l r []
  | none =>
    match (own s).2 with
    | .reply r payload => (own s).1.respond l r payload
    | .later => (own s).1

/-- The whole path of a request of kind `k` on link `l` (R148). -/
def State.serve (l : LinkId) (k : ReqKind) (p : List Byte) (own : State → State × Answer) (s : State) : State :=
  s.take l (kindCode k) (State.judge l k p own)

end Sys2Proof.Machine
end

