-- ==== Sys2Proof/Machine/Band.lean ====
section
/-! DEFINITION. Tolerance bands, block classes and the merge walk (spec/03_tolerance_bands_and_block_classes.md,
R41 to R58). -/

namespace Sys2Proof.Machine

/-! ## Band arithmetic (R41 to R44) -/

/-- The magnitude of the nominal, exact (R41). -/
def magnitude (n : Int) : Nat := n.natAbs

/-- A relative width, rounded down (R42). -/
def relativeWidth (n : Int) (tolerance : Nat) : Nat := magnitude n * tolerance / 10000

/-- A width: the relative width raised to the floor (R43). -/
def bandWidth (n : Int) (tolerance floor : Nat) : Nat := max floor (relativeWidth n tolerance)

/-- The ends of the signed 32-bit range. -/
def int32Min : Int := -2147483648
def int32Max : Int := 2147483647

/-- The lower limit, saturated (R44). -/
def lowerLimit (n : Int) (wlo : Nat) : Int := max int32Min (n - wlo)

/-- The upper limit, saturated (R44). -/
def upperLimit (n : Int) (whi : Nat) : Int := min int32Max (n + whi)

/-- The largest stored tolerance (R5, R25). -/
def toleranceLimit : Nat := 5000

/-- A TUNABLE entry's stored fields from the values sent (R25): the tolerances clamped, widths and limits computed. -/
def tunableValue (n : Int) (blo bhi floor : Nat) : RefValue :=
  let blo := min blo toleranceLimit
  let bhi := min bhi toleranceLimit
  let wlo := bandWidth n blo floor
  let whi := bandWidth n bhi floor
  .tunable n blo bhi floor wlo whi (lowerLimit n wlo) (upperLimit n whi)

/-- The limits an entry's responses carry: 0 and 0 for a FIXED entry (R25). -/
def RefValue.limits : RefValue → Int × Int
  | .fixed _ => (0, 0)
  | .tunable _ _ _ _ _ _ lo hi => (lo, hi)

/-! ## Classes and scores (R46 to R50) -/

/-- The deviation score of an INBAND value (R46, R47): whole percent of the side's unsaturated width. -/
def deviationScore (v n : Int) (wlo whi : Nat) : Nat := 100 * (v - n).natAbs / (if v > n then whi else wlo)

/-- The class and score of a block found in both lists (R49, R46). -/
def classifyBoth (r : RefEntry) (report : Report) : BlockClass × Option Nat :=
  match r.value, report with
  | .fixed c, .check c' => if c = c' then (.matched, some 0) else (.altered, none)
  | .fixed _, .value _ => (.altered, none)
  | .fixed _, .unset => (.altered, none)
  | .tunable n _ _ _ wlo whi lo hi, .value v =>
    if v = n then (.matched, some 0)
    else if lo ≤ v ∧ v ≤ hi then (.inband, some (deviationScore v n wlo whi))
    else (.offband, some 255)
  | .tunable .., .unset =>
    match r.presence with
    | .optional => (.absent, none)
    | .required => (.unset, none)
  | .tunable .., .check _ => (.altered, none)

/-- The class of a block found in the reference list only (R50). -/
def classifyRefOnly (r : RefEntry) : BlockClass :=
  match r.presence with
  | .optional => .absent
  | .required => .missing

/-- The record of a block found in the manifest only (R50). -/
def extraRecord (m : ManifestEntry) : ClassRecord := { id := m.id, cls := .extra, score := none, origin := .manifestOnly }

/-- The record of a block found in the reference list only. -/
def refOnlyRecord (r : RefEntry) : ClassRecord :=
  { id := r.id, cls := classifyRefOnly r, score := none, origin := .refOnly }

/-- The record of a block found in both. -/
def bothRecord (r : RefEntry) (m : ManifestEntry) : ClassRecord :=
  { id := r.id, cls := (classifyBoth r m.report).1, score := (classifyBoth r m.report).2, origin := .both }

/-! ## The merge walk (R51 to R53) -/

/-- One step of the walk: the record it appends and what is left of both lists; none when both are exhausted (R51). -/
def walkStep : List RefEntry → List ManifestEntry → Option (ClassRecord × List RefEntry × List ManifestEntry)
  | [], [] => none
  | r :: rs, [] => some (refOnlyRecord r, rs, [])
  | [], m :: ms => some (extraRecord m, [], ms)
  | r :: rs, m :: ms =>
    if r.id = m.id then some (bothRecord r m, rs, ms)
    else if r.id < m.id then some (refOnlyRecord r, rs, m :: ms)
    else some (extraRecord m, r :: rs, ms)

/-- At most `n` steps: the records appended and the rest of the manifest. -/
def walk : Nat → List RefEntry → List ManifestEntry → List ClassRecord × List ManifestEntry
  | 0, _, ms => ([], ms)
  | n + 1, rs, ms =>
    match walkStep rs ms with
    | none => ([], ms)
    | some (c, rs', ms') => (c :: (walk n rs' ms').1, (walk n rs' ms').2)

/-- The class sequence of a whole walk (R53): no step is left after as many as both lists hold. -/
def mergeWalk (rs : List RefEntry) (ms : List ManifestEntry) : List ClassRecord := (walk (rs.length + ms.length) rs ms).1

/-! ## What the walk hands on (R54 to R58) -/

/-- The refusing classes (R48). -/
def BlockClass.refuses : BlockClass → Bool
  | .offband | .altered | .unset | .missing | .extra => true
  | .matched | .inband | .absent => false

/-- How many records hold a class. -/
def countOf (c : BlockClass) (seq : List ClassRecord) : Nat := seq.countP (fun x => x.cls == c)

/-- The eight counts (R54). -/
def countsOf (seq : List ClassRecord) : ClassCounts :=
  { matched := countOf .matched seq, inband := countOf .inband seq, offband := countOf .offband seq,
    altered := countOf .altered seq, absent := countOf .absent seq, unset := countOf .unset seq,
    missing := countOf .missing seq, extra := countOf .extra seq }

/-- The first refusing block (R55). -/
def firstRefusing (seq : List ClassRecord) : Option ClassRecord := seq.find? (fun x => x.cls.refuses)

/-- The highest INBAND score, 0 when no block is INBAND (R56). -/
def highestInband (seq : List ClassRecord) : Nat :=
  seq.foldl (fun h x => if x.cls = .inband then max h (x.score.getD 0) else h) 0

/-- The verdict of a walk from its counts (R57). -/
def ClassCounts.verdict (c : ClassCounts) : Verdict :=
  if c.offband + c.altered + c.unset + c.missing + c.extra > 0 then .refused
  else if c.inband > 0 then .trimmed
  else .cleared

/-- The summary of a verification result (R58). -/
def summaryOf (v : Verification) (seq : List ClassRecord) : Summary :=
  { verdict := (countsOf seq).verdict, format := v.format, generation := v.generation, counts := countsOf seq,
    firstBlock := ((firstRefusing seq).map ClassRecord.id).getD 0, firstClass := (firstRefusing seq).map ClassRecord.cls,
    highest := highestInband seq }

/-- All counts 0. -/
def ClassCounts.zero : ClassCounts :=
  { matched := 0, inband := 0, offband := 0, altered := 0, absent := 0, unset := 0, missing := 0, extra := 0 }

/-- The summary of an immediate OUTSIDE answer (R68). -/
def outsideSummary (format : FormatNo) (generation : Word16) : Summary :=
  { verdict := .outside, format := format, generation := generation, counts := ClassCounts.zero, firstBlock := 0,
    firstClass := none, highest := 0 }

/-- The class sequence of a verification at the end of its walk: over the slot's list as the store holds it, or, when
the format was retired in the meantime, what was classed by then with the rest of the manifest EXTRA (R9, R52). -/
def State.sequenceOf (s : State) (v : Verification) : List ClassRecord :=
  match v.lost with
  | none => mergeWalk (s.fmt v.format).lists[v.slot] v.manifest
  | some (classed, rest) => classed ++ rest.map extraRecord

end Sys2Proof.Machine
end

