-- ==== Sys2Proof/Machine/Monitor.lean ====
section
/-! DEFINITION. The drift monitor (spec/08_drift_monitor.md, R126 to R141): how an event is judged and counted, and the
requests MONITOR-SET, TRIP-CLEAR and MONITOR-READ and the residency tick. -/

namespace Sys2Proof.Machine

/-! ## Whether an event counts (R127 to R131) -/

/-- The event-set bit of a class's block event; MATCH sends none (R127, R164). -/
def BlockClass.eventBit : BlockClass → Option Nat
  | .matched => none
  | .inband => some 0
  | .absent => some 1
  | .offband => some 2
  | .altered => some 3
  | .unset => some 4
  | .missing => some 5
  | .extra => some 6

/-- The event-set bit of an event's kind (R164). -/
def MonitorEvent.kindBit : MonitorEvent → Option Nat
  | .block _ _ c _ _ => c.eventBit
  | .verdictRefused _ _ => some 7
  | .stale _ => some 8
  | .lapsed _ => some 9
  | .stall => some 10
  | .abandon => some 11

/-- The slot-filter bit an event passes by: that of its slot, or "unattributed" (R129). -/
def MonitorEvent.filterBit : MonitorEvent → Nat
  | .block k _ _ _ _ | .verdictRefused k _ | .stale k | .lapsed k => k.val
  | .stall | .abandon => 6

/-- The threshold test, for INBAND and OFFBAND events only (R130). -/
def Counter.passesThreshold (c : Counter) (e : MonitorEvent) : Bool :=
  match e with
  | .block _ _ cls score _ =>
    if cls == .inband || cls == .offband then
      if c.invert then score.getD 0 < c.threshold.toNat else c.threshold.toNat ≤ score.getD 0
    else true
  | .verdictRefused _ _ | .stale _ | .lapsed _ | .stall | .abandon => true

/-- The edge test (R131). -/
def Counter.passesEdge (c : Counter) (e : MonitorEvent) : Bool :=
  if c.edge then
    match e with
    | .block _ _ cls _ prior => prior != some cls
    | .verdictRefused _ prior => prior != Verdict.refused
    | .stale _ | .lapsed _ | .stall | .abandon => true
  else true

/-- Whether an event counts for a counter, under the freeze in force when the event is taken (R128). -/
def Counter.counts (c : Counter) (frozen : Bool) (e : MonitorEvent) : Bool :=
  c.enable && !frozen && e.kindBit.any (fun i => c.events.getLsbD i) && c.filter.getLsbD e.filterBit
    && c.passesThreshold e && c.passesEdge e

/-! ## Counting and overflow (R132) -/

/-- Whether counting one more wraps the value. -/
def Counter.full (c : Counter) : Bool := c.value == 0xFFFFFF

/-- A counter after an event: raised by one when it counts, its flag set at the wrap (R132). -/
def Counter.take (frozen : Bool) (e : MonitorEvent) (c : Counter) : Counter :=
  if c.counts frozen e then { c with value := c.value + 1, flag := c.flag || c.full } else c

/-- Whether an event overflows some counter. -/
def State.overflows (s : State) (e : MonitorEvent) : Bool :=
  s.counters.toList.any (fun c => c.counts s.frozen e && c.full)

/-- The monitor takes one event: all four counters judge it under the freeze in force, an overflow sets attention TRIP,
and the slot trackers take the holds that follow (R128, R132 to R135). -/
def State.takeEvent (s : State) (e : MonitorEvent) : State :=
  (({ s with counters := Vector.ofFn fun i => (s.counters[i]).take s.frozen e }).raiseIf (s.overflows e) .trip).evalPermits

/-- Events taken one at a time, in order (R127). -/
def State.takeEvents (s : State) (es : List MonitorEvent) : State := es.foldl State.takeEvent s

/-! ## Requests to the monitor (R136 to R139) -/

/-- The counter byte, settings and value of MONITOR-SET and MONITOR-READ responses (section 11.7). -/
def Counter.valueBytes (c : Counter) : List Byte := bytes4 (c.value.setWidth 32)

/-- MONITOR-SET (R137). -/
def ownMonitorSet (p : List Byte) (s : State) : State × Answer :=
  match counterOf (byteAt p 0) with
  | none => (s, .reply .range [])
  | some i =>
    if s.counters[i].flag then (s, .reply .state [])
    else
      match settingsOf p with
      | none => (s, .reply .range [])
      | some c =>
        ({ s with counters := s.counters.set i c },
         .reply .done (num1 i.val ++ c.settingBytes ++ c.valueBytes ++ bool1 s.frozen))

/-- MONITOR-SET. -/
def execMonitorSet (l : LinkId) (p : List Byte) (s : State) : Host.Outcome State Fault Refusal :=
  .next (s.serve l .monitorSet p (ownMonitorSet p))

/-- TRIP-CLEAR (R138): flag cleared, value loaded, freeze and holds derived anew. -/
def ownTripClear (p : List Byte) (s : State) : State × Answer :=
  match counterOf (byteAt p 0) with
  | none => (s, .reply .range [])
  | some i =>
    if (quad p 1).toNat < 2 ^ 24 then
      let c : Counter := { s.counters[i] with flag := false, value := (quad p 1).setWidth 24 }
      let s' := ({ s with counters := s.counters.set i c }).evalPermits
      (s', .reply .done (c.valueBytes ++ bool1 c.flag ++ bool1 s'.frozen))
    else (s, .reply .range [])

/-- TRIP-CLEAR. -/
def execTripClear (l : LinkId) (p : List Byte) (s : State) : Host.Outcome State Fault Refusal :=
  .next (s.serve l .tripClear p (ownTripClear p))

/-- The MONITOR-READ response of 74 bytes (R139, section 11.7). -/
def State.monitorBytes (s : State) : List Byte :=
  s.counters.toList.flatMap (fun c => c.valueBytes ++ bool1 c.flag ++ c.settingBytes) ++ bool1 s.frozen
    ++ set1 (slotsWhere s.held) ++ s.residency.toList.flatMap bytes4

/-- MONITOR-READ (R139): changes no state. -/
def ownMonitorRead (s : State) : State × Answer := (s, .reply .done s.monitorBytes)

/-- MONITOR-READ. -/
def execMonitorRead (l : LinkId) (p : List Byte) (s : State) : Host.Outcome State Fault Refusal :=
  .next (s.serve l .monitorRead p ownMonitorRead)

/-! ## Residency (R140) -/

/-- The residency counter of a line phase. -/
def Line.residencyIndex : Line → Fin 5
  | .noFormat => 0
  | .run => 1
  | .changeover .. => 2
  | .stalled _ => 3
  | .service .. => 4

/-- A residency counter after one tick: it stays at 4,294,967,295 (R140). -/
def residencyTick (r : Word32) : Word32 := if r = 0xFFFFFFFF then r else r + 1

/-- RESIDENCY_TICK: the counter of the current line phase rises by one (R140). -/
def execResidencyTick (s : State) : Host.Outcome State Fault Refusal :=
  .next { s with
    residency := s.residency.set s.line.residencyIndex (residencyTick s.residency[s.line.residencyIndex]) }

end Sys2Proof.Machine
end

