-- ==== Sys2Proof/Machine/Tracker.lean ====
section
/-! DEFINITION. The slot trackers (spec/05_verification_verdicts_and_run_permits.md, R80 to R94) with the readiness
report and commit they reach in the line phase controller (R103 to R105). -/

namespace Sys2Proof.Machine

/-! ## Verdicts set by the line (R87) -/

/-- The line sets every slot's verdict: timers stop, permits are evaluated, memory and summary are kept (R87). -/
def State.setVerdicts (f : SlotId → Verdict) (s : State) : State :=
  ({ s with slots := Vector.ofFn fun k => { s.slots[k] with verdict := f k, timer := none } }).evalPermits

/-- PENDING for the members of a set, another verdict for the rest (R87). -/
def pendingIn (x : SlotSet) (other : Verdict) (k : SlotId) : Verdict := if inSet x k then .pending else other

/-- The presentation interval of the active format as a full timer (R88). -/
def State.fullInterval (s : State) : Nat := seconds (s.fmt s.active).interval

/-! ## Readiness and commit (R103 to R105) -/

/-- The ready set after a report: only participants report (R103). -/
def Changeover.report (c : Changeover) (k : SlotId) (isReady : Bool) : Changeover :=
  if inSet c.participants k then
    { c with ready := if isReady then c.ready ||| BitVec.twoPow 6 k.val else c.ready &&& ~~~BitVec.twoPow 6 k.val }
  else c

/-- Commit (R105): the target is active in RUN under a new epoch, the context is gone, COMMIT is set, participants keep
their verdicts and start their timers, the other slots are OUTSIDE. -/
def State.commit (c : Changeover) (s : State) : State :=
  let s1 : State := { s with active := c.target, line := .run, epoch := s.epoch + 1 }
  let s2 : State :=
    { s1 with
      slots := Vector.ofFn fun k =>
        if inSet c.participants k then { s1.slots[k] with timer := some s1.fullInterval }
        else { s1.slots[k] with verdict := .outside, timer := none } }
  (s2.raise .commit).evalPermits

/-- A readiness report and the check for commit that follows it; nothing outside CHANGEOVER and STALLED (R103, R104). -/
def State.reportReady (k : SlotId) (isReady : Bool) (s : State) : State :=
  match s.line with
  | .changeover c settle =>
    if (c.report k isReady).ready = c.participants then s.commit (c.report k isReady)
    else { s with line := .changeover (c.report k isReady) settle }
  | .stalled c =>
    if (c.report k isReady).ready = c.participants then s.commit (c.report k isReady)
    else { s with line := .stalled (c.report k isReady) }
  | .noFormat | .run | .service .. => s

/-! ## Applying a result (R82 to R86) -/

/-- The class a memory held for a block, if its tag is the given one (R84, R127). -/
def priorClass (m : Option ClassMemory) (format : FormatNo) (generation : Word16) (id : Word16) : Option BlockClass :=
  match m with
  | some m =>
    if m.format = format ∧ m.generation = generation then (m.records.find? (fun x => x.1 == id)).map Prod.snd else none
  | none => none

/-- The events of one application: block events in ascending block id, then VERDICT_REFUSED (R84). -/
def applicationEvents (old : Slot) (v : Verification) (seq : List ClassRecord) : List MonitorEvent :=
  (seq.filter (fun x => x.cls != .matched)).map
      (fun x => .block v.slot x.id x.cls x.score (priorClass old.memory v.format v.generation x.id))
    ++ (if (summaryOf v seq).verdict = .refused then [.verdictRefused v.slot old.verdict] else [])

/-- Verdict, class memory and summary of an applied result (R83, steps 2 to 4). -/
def Slot.applied (v : Verification) (seq : List ClassRecord) (x : Slot) : Slot :=
  { x with
    verdict := (summaryOf v seq).verdict
    memory := some { format := v.format, generation := v.generation, records := seq.map fun r => (r.id, r.cls) }
    summary := some (summaryOf v seq) }

/-- The presentation timer after an application in RUN or SERVICE (R88): restarted on release, stopped on refusal. -/
def State.timerAfter (s : State) (verdict : Verdict) : Option Nat :=
  if verdict.releases then some s.fullInterval else none

/-- Step 5 of R83: the timer in RUN and SERVICE, the readiness report in CHANGEOVER and STALLED (R85). -/
def State.timerOrReport (k : SlotId) (verdict : Verdict) (s : State) : State :=
  match s.line with
  | .run | .service .. => s.setSlot k { s.slots[k] with timer := s.timerAfter verdict }
  | .changeover .. | .stalled _ => s.reportReady k verdict.releases
  | .noFormat => s

/-- A current result is applied, in the order of R83. -/
def State.applyResult (v : Verification) (seq : List ClassRecord) (s : State) : State :=
  let old := s.slots[v.slot]
  let s1 := s.takeEvents (applicationEvents old v seq)
  let s2 := s1.setSlot v.slot (s1.slots[v.slot].applied v seq)
  let verdict := (summaryOf v seq).verdict
  let s3 := s2.timerOrReport v.slot verdict
  (s3.raiseIf (verdict == .refused && old.verdict != .refused) .refuse).evalPermits

/-- The slot tracker is offered a result: applied when its epoch is current, otherwise superseded (R82). -/
def State.offer (v : Verification) (seq : List ClassRecord) (s : State) : State × Result :=
  if v.epoch = s.epoch then (s.applyResult v seq, .done) else (s, .superseded)

/-! ## The presentation timer's expiry (R89) -/

/-- The verdict changes to STALE or LAPSED, with its attention flag and event (R89). -/
def State.degrade (k : SlotId) (verdict : Verdict) (timer : Option Nat) (f : Flag) (e : MonitorEvent) (s : State) : State :=
  (((s.setSlot k { s.slots[k] with verdict := verdict, timer := timer }).raise f).takeEvent e).evalPermits

/-- PRESENTATION_TIMER_EXPIRY: the timer has run out (R89). One that a result or line event taken first has restarted or
stopped has not, and its expiry does not happen (R87, R89, log 4). -/
def execPresentationTimerExpiry (k : SlotId) (s : State) : Host.Outcome State Fault Refusal :=
  match s.slots[k].timer, s.slots[k].verdict with
  | some 0, .cleared => .next (s.degrade k .stale (some s.fullInterval) .stale (.stale k))
  | some 0, .trimmed => .next (s.degrade k .stale (some s.fullInterval) .stale (.stale k))
  | some 0, .stale => .next (s.degrade k .lapsed none .lapse (.lapsed k))
  | _, _ => .next s

end Sys2Proof.Machine
end

