-- ==== Sys2Proof/Machine/Manifest.lean ====
section
/-! DEFINITION. The manifest assembler (spec/04_manifest_presentation.md, R59 to R74) and the comparator (R75 to R79). -/

namespace Sys2Proof.Machine

/-! ## The comparator's queue (R75, R76, R110) -/

/-- The idle comparator takes the oldest verification (R76). -/
def State.startComparison (s : State) : State :=
  match s.comparing, s.queue with
  | none, l :: q => { s with comparing := some l, queue := q }
  | _, _ => s

/-- A verification of a link has ended, by its result or its cancellation: the marker no longer waits for it (R110). -/
def State.verificationEnded (l : LinkId) (s : State) : State :=
  { s with planWaits := s.planWaits &&& ~~~BitVec.twoPow 8 l.val }

/-! ## MANIFEST-BEGIN (R61, R62) -/

/-- The longest manifest (R59). -/
def manifestLimit : Nat := 256

/-- The assembler's side of MANIFEST-BEGIN: a new assembly, whatever was open before (R62). -/
def ownManifestBegin (l : LinkId) (p : List Byte) (s : State) : State × Answer :=
  match (s.plan[l]).slot? with
  | none => (s, .reply .role [])
  | some k =>
    if half p 0 = 0 ∨ manifestLimit < (half p 0).toNat then (s, .reply .range [])
    else (s.setBuffer l (.assembling (half p 0).toNat []), .reply .done (bytes2 (half p 0) ++ num1 k.val))

/-- MANIFEST-BEGIN. -/
def execManifestBegin (l : LinkId) (p : List Byte) (s : State) : Host.Outcome State Fault Refusal :=
  .next (s.serve l .manifestBegin p (ownManifestBegin l p))

/-! ## MANIFEST-PART (R63 to R65) -/

/-- The block id of the last entry received, 0 before the first (R59). -/
def lastBlock (es : List ManifestEntry) : Word16 := (es.getLast?.map ManifestEntry.id).getD 0

/-- The entries of a part examined in order after block id `prev`; `pos` is the position of the first. The refusal and
the position of the first entry that fails, or the entries (R64). -/
def checkPart (prev : Word16) (pos : Nat) : List (Option ManifestEntry) → Except (Result × Nat) (List ManifestEntry)
  | [] => .ok []
  | none :: _ => .error (.range, pos)
  | some e :: rest =>
    if e.id = 0 then .error (.range, pos)
    else if e.id ≤ prev then .error (.order, pos)
    else
      match checkPart e.id (pos + 1) rest with
      | .ok es => .ok (e :: es)
      | .error r => .error r

/-- The payload of a refused part: the position; received and declared counts 0 (R64, section 11.5). -/
def partRefusal (pos : Nat) : List Byte := num1 pos ++ num2 0 ++ num2 0

/-- The assembler's side of MANIFEST-PART, in the order of R63 and R64; a part is taken all or nothing (R65). -/
def ownManifestPart (l : LinkId) (p : List Byte) (s : State) : State × Answer :=
  match s.buffers[l] with
  | .assembling declared es =>
    if declared < es.length + (byteAt p 0).toNat then (s.setBuffer l .idle, .reply .range (partRefusal 0))
    else
      match checkPart (lastBlock es) 1 (partEntries p) with
      | .error (r, pos) => (s.setBuffer l .idle, .reply r (partRefusal pos))
      | .ok new =>
        (s.setBuffer l (.assembling declared (es ++ new)),
         .reply .done (num2 (es.length + new.length) ++ num2 declared))
  | .idle | .verifying _ => (s, .reply .state (partRefusal 0))

/-- MANIFEST-PART. -/
def execManifestPart (l : LinkId) (p : List Byte) (s : State) : Host.Outcome State Fault Refusal :=
  .next (s.serve l .manifestPart p (ownManifestPart l p))

/-! ## MANIFEST-END (R66 to R69) -/

/-- The verification format by line phase (R67); none where MANIFEST-END is refused with PHASE (R66, checks 3 and 4). -/
def State.verificationFormat (s : State) (k : SlotId) : Option FormatNo :=
  match s.line with
  | .noFormat => none
  | .run => some s.active
  | .changeover c _ => some c.target
  | .stalled c => some c.target
  | .service kept _ _ => if inSet kept k then some s.active else none

/-- The verification joins the tail of the queue and the buffer is VERIFYING (R69); an idle comparator starts (R76). -/
def State.queueVerification (l : LinkId) (v : Verification) (s : State) : State :=
  ({ s.setBuffer l (.verifying v) with queue := s.queue ++ [l] }).startComparison

/-- The assembler's side of MANIFEST-END, in the order of R66; then OUTSIDE at once (R68) or the queue (R69). -/
def ownManifestEnd (l : LinkId) (s : State) : State × Answer :=
  match (s.plan[l]).slot?, s.buffers[l] with
  | some k, .assembling declared es =>
    if es.length ≠ declared then (s.setBuffer l .idle, .reply .range (num2 es.length ++ num2 declared))
    else
      match s.verificationFormat k with
      | none => (s.setBuffer l .idle, .reply .phase (num2 es.length ++ num2 declared))
      | some f =>
        if inSet (s.fmt f).participants k then
          (s.queueVerification l
            { slot := k, manifest := es, format := f, generation := s.genOf f, epoch := s.epoch, lost := none }, .later)
        else (s.setBuffer l .idle, .reply .done (outsideSummary f (s.genOf f)).bytes)
  | _, _ => (s, .reply .state [])

/-- MANIFEST-END. -/
def execManifestEnd (l : LinkId) (p : List Byte) (s : State) : Host.Outcome State Fault Refusal :=
  .next (s.serve l .manifestEnd p (ownManifestEnd l))

/-! ## The end of a comparison (R77) -/

/-- The comparison of link `l` ends with class sequence `seq`: the result is offered, the buffer released, the response
produced, and the next comparison starts (R76, R77, R92, R110). -/
def State.endComparison (l : LinkId) (v : Verification) (seq : List ClassRecord) (s : State) : State :=
  let (s1, r) := s.offer v seq
  let s2 : State := { (s1.setBuffer l .idle).verificationEnded l with comparing := none }
  (s2.respond l r (summaryOf v seq).bytes).startComparison

/-- COMPARISON_END: the merge walk in progress completes (R77); with none in progress none completes. -/
def execComparisonEnd (s : State) : Host.Outcome State Fault Refusal :=
  match s.comparing with
  | none => .next s
  | some l =>
    match s.buffers[l] with
    | .verifying v => .next (s.endComparison l v (s.sequenceOf v))
    | .idle | .assembling _ _ => .next ({ s with comparing := none }.startComparison)

/-! ## A break on the presenting link (R71, R78) -/

/-- What a break ends in the assembler and the comparator: an open assembly is discarded, a queued verification leaves
the queue, a comparison stops and the next one starts; no result, no response (R71, R78, R110). -/
def State.cancelManifest (l : LinkId) (s : State) : State :=
  match s.buffers[l] with
  | .idle => s
  | .assembling _ _ => s.setBuffer l .idle
  | .verifying _ =>
    ({ (s.setBuffer l .idle).verificationEnded l with
        queue := s.queue.filter (· ≠ l)
        comparing := if s.comparing = some l then none else s.comparing }).startComparison

end Sys2Proof.Machine
end

