-- ==== Sys2Proof/Machine/LinePhase.lean ====
section
/-! DEFINITION. The line phase controller: changeover (spec/06_changeover.md, R95 to R114) and service phase
(spec/07_service_phase.md, R115 to R125). -/

namespace Sys2Proof.Machine

/-! ## Shared acts -/

/-- The phase becomes NOFORMAT with F0 active under a new epoch, every verdict NONE (R98, R108, R122). -/
def State.standDown (s : State) : State :=
  ({ s with line := .noFormat, active := 0, epoch := s.epoch + 1 }).setVerdicts (fun _ => .none)

/-- A changeover to `t` starts (R99, R123): context, settle timer, phase, epoch, verdicts. The origin is the active
format, which stays active. -/
def State.startChangeover (t : FormatNo) (cause : Cause) (s : State) : State :=
  let parts := (s.fmt t).participants
  let ctx : Changeover :=
    { target := t, targetGen := s.genOf t, origin := s.active, originGen := s.genOf s.active, cause := cause,
      participants := parts, ready := 0, extensions := 0 }
  ({ s with line := .changeover ctx (seconds (s.fmt t).settle), epoch := s.epoch + 1 }).setVerdicts
    (pendingIn parts .outside)

/-- Phase and epoch, the head of most line responses (section 11.4). -/
def State.phaseEpoch (s : State) : List Byte := [s.line.phaseCode] ++ bytes2 s.epoch

/-- The LINE-CHANGE response: bytes 3 to 8 are 0 without a changeover (section 11.4). -/
def State.changeBytes (s : State) : List Byte :=
  s.phaseEpoch ++
    match s.line.changeover? with
    | some c => num1 c.target.val ++ bytes2 c.targetGen ++ set1 c.participants ++ num2 (s.fmt c.target).settle
    | none => List.replicate 6 0

/-- Phase, active format and epoch (section 11.4). -/
def State.lineBytes (s : State) : List Byte := [s.line.phaseCode] ++ num1 s.active.val ++ bytes2 s.epoch

/-- Whether a format is SEALED and of the given kind (R97, R116). -/
def State.sealedAs (s : State) (n : FormatNo) (kind : FormatKind) : Bool :=
  (s.fmt n).state == .sealed && (s.fmt n).kind == kind

/-! ## LINE-CHANGE (R97 to R99) -/

/-- The line phase controller's side of LINE-CHANGE, in the order of R97. -/
def ownLineChange (p : List Byte) (s : State) : State × Answer :=
  match formatOf (byteAt p 0) with
  | none => (s, .reply .range [])
  | some t =>
    if t = 0 then
      match s.line with
      | .run => (s.standDown, .reply .done s.standDown.changeBytes)
      | .noFormat | .changeover .. | .stalled _ | .service .. => (s, .reply .done s.changeBytes)
    else if s.planPending then (s, .reply .busy [])
    else if !s.sealedAs t .production then (s, .reply .state [])
    else (s.startChangeover t .order, .reply .done (s.startChangeover t .order).changeBytes)

/-- LINE-CHANGE. -/
def execLineChange (l : LinkId) (p : List Byte) (s : State) : Host.Outcome State Fault Refusal :=
  .next (s.serve l .lineChange p (ownLineChange p))

/-! ## LINE-EXTEND (R106) -/

/-- The most extensions of one changeover (R106). -/
def extensionLimit : Nat := 3

/-- One more extension: the settle timer restarts and the phase is CHANGEOVER (R106). The response is the three bytes of
section 11.4, without the phase and epoch of which R96 and R112 speak for every line request (log 30). -/
def State.extend (c : Changeover) (s : State) : State × Answer :=
  if extensionLimit ≤ c.extensions then (s, .reply .range [])
  else
    let window := (s.fmt c.target).settle
    ({ s with line := .changeover { c with extensions := c.extensions + 1 } (seconds window) },
     .reply .done (num1 (c.extensions + 1) ++ num2 window))

/-- The line phase controller's side of LINE-EXTEND. -/
def ownLineExtend (s : State) : State × Answer :=
  match s.line.changeover? with
  | some c => s.extend c
  | none => (s, .reply .phase [])

/-- LINE-EXTEND. -/
def execLineExtend (l : LinkId) (p : List Byte) (s : State) : Host.Outcome State Fault Refusal :=
  .next (s.serve l .lineExtend p ownLineExtend)

/-! ## LINE-ABANDON (R107, R108) -/

/-- The line after an abandon: back to a SEALED origin for cause ORDER, otherwise NOFORMAT (R108). -/
def State.afterAbandon (c : Changeover) (s : State) : State :=
  if c.cause = .order ∧ c.origin ≠ 0 then
    ({ s with line := .run, active := c.origin, epoch := s.epoch + 1 }).setVerdicts
      (pendingIn (s.fmt c.origin).participants .outside)
  else s.standDown

/-- The abandon of a changeover: the line moves, attention ABANDON is set and the ABANDON event is sent (R107). -/
def State.abandon (c : Changeover) (s : State) : State := ((s.afterAbandon c).raise .abandon).takeEvent .abandon

/-- The line phase controller's side of LINE-ABANDON. -/
def ownLineAbandon (s : State) : State × Answer :=
  match s.line.changeover? with
  | some c => (s.abandon c, .reply .done (s.abandon c).lineBytes)
  | none => (s, .reply .phase [])

/-- LINE-ABANDON. -/
def execLineAbandon (l : LinkId) (p : List Byte) (s : State) : Host.Outcome State Fault Refusal :=
  .next (s.serve l .lineAbandon p ownLineAbandon)

/-! ## SERVICE-ENTER (R116, R117) -/

/-- Entry into SERVICE with format `f`, kept set and return format (R117). -/
def State.enterService (f : FormatNo) (kept : SlotSet) (ret : FormatNo) (s : State) : State :=
  ({ s with line := .service kept ret (s.genOf ret), active := f, epoch := s.epoch + 1 }).setVerdicts
    (pendingIn kept .parked)

/-- The SERVICE-ENTER response (section 11.4). -/
def State.enterBytes (s : State) : List Byte :=
  match s.line with
  | .service kept ret retGen =>
    s.phaseEpoch ++ num1 s.active.val ++ bytes2 (s.genOf s.active) ++ num1 (s.fmt s.active).interval ++ set1 kept
      ++ num1 ret.val ++ bytes2 retGen
  | .noFormat | .run | .changeover .. | .stalled _ => []

/-- Whether a return format is given: the code 0xFF stands for "not given" (R116, R164). -/
def returnGiven (p : List Byte) : Bool := byteAt p 2 != 0xFF

/-- The line phase controller's side of SERVICE-ENTER, in the order of R116. -/
def ownServiceEnter (p : List Byte) (s : State) : State × Answer :=
  match storableOf (byteAt p 0), slotSetOf (byteAt p 1), (if returnGiven p then formatOf (byteAt p 2) else some s.active) with
  | some f, some kept, some ret =>
    if kept = 0 then (s, .reply .range [])
    else if s.planPending then (s, .reply .busy [])
    else if !s.sealedAs f .service then (s, .reply .state [])
    else if kept &&& ~~~(s.fmt f).participants ≠ 0 then (s, .reply .range [])
    else if returnGiven p && ret != 0 && !s.sealedAs ret .production then (s, .reply .state [])
    else (s.enterService f kept ret, .reply .done (s.enterService f kept ret).enterBytes)
  | _, _, _ => (s, .reply .range [])

/-- SERVICE-ENTER. -/
def execServiceEnter (l : LinkId) (p : List Byte) (s : State) : Host.Outcome State Fault Refusal :=
  .next (s.serve l .serviceEnter p (ownServiceEnter p))

/-! ## SERVICE-LEAVE (R122, R123) -/

/-- Leaving SERVICE: to NOFORMAT for return format F0, otherwise a changeover to the return format. -/
def State.leaveService (ret : FormatNo) (s : State) : State :=
  if ret = 0 then s.standDown else s.startChangeover ret .serviceReturn

/-- The line phase controller's side of SERVICE-LEAVE. -/
def ownServiceLeave (s : State) : State × Answer :=
  match s.line with
  | .service _ ret _ => (s.leaveService ret, .reply .done (s.leaveService ret).changeBytes)
  | .noFormat | .run | .changeover .. | .stalled _ => (s, .reply .phase [])

/-- SERVICE-LEAVE. -/
def execServiceLeave (l : LinkId) (p : List Byte) (s : State) : Host.Outcome State Fault Refusal :=
  .next (s.serve l .serviceLeave p ownServiceLeave)

/-! ## LINE-RESTART (R111, R161) -/

/-- The restart: NOFORMAT under a new epoch, class memories and summaries emptied; all else is as it was (R111). -/
def State.restart (s : State) : State :=
  let d := s.standDown
  { d with slots := Vector.ofFn fun k => { d.slots[k] with memory := none, summary := none } }

/-- The line phase controller's side of LINE-RESTART. -/
def ownLineRestart (s : State) : State × Answer := (s.restart, .reply .done s.restart.lineBytes)

/-- LINE-RESTART. -/
def execLineRestart (l : LinkId) (p : List Byte) (s : State) : Host.Outcome State Fault Refusal :=
  .next (s.serve l .lineRestart p ownLineRestart)

/-! ## The settle timer's expiry (R102) -/

/-- SETTLE_TIMER_EXPIRY: the settle timer has run out and the changeover stalls. One that an event taken first has restarted
or stopped has not, and no stall follows (R102, log 4). -/
def execSettleTimerExpiry (s : State) : Host.Outcome State Fault Refusal :=
  match s.line with
  | .changeover c 0 => .next (({ s with line := .stalled c }.raise .stall).takeEvent .stall)
  | .changeover _ (_ + 1) | .noFormat | .run | .stalled _ | .service .. => .next s

end Sys2Proof.Machine
end

