-- ==== Sys2Proof/Machine/Status.lean ====
section
/-! DEFINITION. The status unit and the reads of the slot trackers (spec/10_line_status_and_attention.md, R157 to R162;
R93, R155). -/

namespace Sys2Proof.Machine

/-! ## IDENT (R155) -/

/-- The IDENT response (R155, section 11.4). -/
def identBytes (l : LinkId) (r : Role) : List Byte := [0x47, 0x04, 0x16, 0x42] ++ num1 l.val ++ [r.code, r.slotCode]

/-- The status unit's side of IDENT: changes no state. -/
def ownIdent (l : LinkId) (s : State) : State × Answer := (s, .reply .done (identBytes l s.plan[l]))

/-- IDENT. -/
def execIdent (l : LinkId) (p : List Byte) (s : State) : Host.Outcome State Fault Refusal :=
  .next (s.serve l .ident p (ownIdent l))

/-! ## STATUS-READ (R157) -/

/-- Bytes 6 to 17: the changeover group; the settle time reads 0xFFFF when STALLED (R157, section 11.4). -/
def changeoverBytes (line : Line) : List Byte :=
  let context (c : Changeover) : List Byte :=
    num1 c.target.val ++ bytes2 c.targetGen ++ [c.cause.code] ++ num1 c.origin.val ++ bytes2 c.originGen
      ++ set1 c.participants ++ set1 c.ready ++ num1 c.extensions
  match line with
  | .changeover c settle => context c ++ num2 (wholeSeconds settle)
  | .stalled c => context c ++ [0xFF, 0xFF]
  | .noFormat | .run | .service .. => List.replicate 12 0

/-- Bytes 18 to 21: the service group. -/
def serviceBytes (line : Line) : List Byte :=
  match line with
  | .service kept ret retGen => num1 ret.val ++ bytes2 retGen ++ set1 kept
  | .noFormat | .run | .changeover .. | .stalled _ => List.replicate 4 0

/-- Bytes 32 to 36: the enrollment group. -/
def State.enrollBytes (s : State) : List Byte :=
  match s.enroll with
  | some c =>
    num1 c.format.val ++ num1 c.owner.val ++ num2 (s.fmt c.format).entryCount ++ [(s.fmt c.format).state.code]
  | none => [0, 0xFF, 0, 0, 0]

/-- The permit levels as a slot set. -/
def State.permits (s : State) : SlotSet := slotsWhere fun k => s.slots[k].permit

/-- The STATUS-READ response of 41 bytes (R157, section 11.4). -/
def State.statusBytes (s : State) : List Byte :=
  s.phaseEpoch ++ num1 s.active.val ++ bytes2 (s.genOf s.active) ++ changeoverBytes s.line ++ serviceBytes s.line
    ++ s.slots.toList.map (fun x => x.verdict.code) ++ set1 s.permits ++ bool1 s.frozen ++ set2 s.attention ++ s.enrollBytes
    ++ num2 s.poolFree ++ bool1 s.engine.isSome ++ bool1 s.planPending

/-- The status unit's side of STATUS-READ: changes no state. -/
def ownStatusRead (s : State) : State × Answer := (s, .reply .done s.statusBytes)

/-- STATUS-READ. -/
def execStatusRead (l : LinkId) (p : List Byte) (s : State) : Host.Outcome State Fault Refusal :=
  .next (s.serve l .statusRead p ownStatusRead)

/-! ## SLOT-READ (R93) -/

/-- The most class memory records of one SLOT-READ (R93). -/
def recordLimit : Nat := 32

/-- Timer running and seconds remaining: rounded up, at least 1 while running (R93). -/
def timerBytes (t : Option Nat) : List Byte :=
  match t with
  | some ms => [1] ++ num1 (max 1 (wholeSeconds ms))
  | none => [0, 0]

/-- Summary present, and the summary (section 11.7). -/
def lastAppliedBytes (x : Option Summary) : List Byte :=
  match x with
  | some y => [1] ++ y.bytes
  | none => List.replicate 25 0

/-- Class memory from a starting block id on: presence, tag, record count, records returned, next block id, records. -/
def memoryBytes (m : Option ClassMemory) (start : Word16) : List Byte :=
  match m with
  | some m =>
    let listed := m.records.filter (fun x => start ≤ x.1)
    let shown := listed.take recordLimit
    [1] ++ num1 m.format.val ++ bytes2 m.generation ++ num2 m.records.length ++ num1 shown.length
      ++ bytes2 (((listed.drop recordLimit).head?.map Prod.fst).getD 0) ++ shown.flatMap (fun x => bytes2 x.1 ++ [x.2.code])
  | none => List.replicate 9 0

/-- The SLOT-READ response (section 11.7). -/
def Slot.readBytes (x : Slot) (start : Word16) : List Byte :=
  [x.verdict.code] ++ bool1 x.permit ++ bool1 x.hold ++ timerBytes x.timer ++ lastAppliedBytes x.summary
    ++ memoryBytes x.memory start

/-- The slot tracker's side of SLOT-READ: changes no state (R93). -/
def ownSlotRead (p : List Byte) (s : State) : State × Answer :=
  match slotOf (byteAt p 0) with
  | some k => (s, .reply .done (s.slots[k].readBytes (half p 1)))
  | none => (s, .reply .range [])

/-- SLOT-READ. -/
def execSlotRead (l : LinkId) (p : List Byte) (s : State) : Host.Outcome State Fault Refusal :=
  .next (s.serve l .slotRead p (ownSlotRead p))

/-! ## ATTENTION-CLEAR (R160) -/

/-- The status unit's side of ATTENTION-CLEAR: bits 9 to 15 name no flag (R160, R164). -/
def ownAttentionClear (p : List Byte) (s : State) : State × Answer :=
  if (half p 0).toNat < 2 ^ 9 then
    let left := s.attention &&& ~~~(half p 0).setWidth 9
    ({ s with attention := left }, .reply .done (set2 left))
  else (s, .reply .range [])

/-- ATTENTION-CLEAR. -/
def execAttentionClear (l : LinkId) (p : List Byte) (s : State) : Host.Outcome State Fault Refusal :=
  .next (s.serve l .attentionClear p (ownAttentionClear p))

end Sys2Proof.Machine
end

