-- ==== Sys2Proof/Machine/Enrollment.lean ====
section
/-! DEFINITION. The enrollment unit (spec/02_enrollment.md, R20 to R40): the requests that build, seal, discard, retire
and read formats, and the idle timer's expiry. -/

namespace Sys2Proof.Machine

/-! ## The context (R20 to R22) -/

/-- The checks every context request goes through first (R21): the refusal, or the context. -/
def State.reachContext (s : State) (l : LinkId) (formatByte : Byte) : Except Result EnrollContext :=
  match storableOf formatByte with
  | none => .error .range
  | some f =>
    match s.enroll with
    | none => .error .state
    | some c => if c.format = f ∧ c.owner = l then .ok c else .error .state

/-- The idle timer restarts at 120 s (R22). -/
def State.restartIdle (c : EnrollContext) (s : State) : State := { s with enroll := some { c with idle := some idleTime } }

/-- A read by the owner of the OPEN context format restarts the idle timer (R22, R36, R37). -/
def State.readRestarts (l : LinkId) (f : FormatNo) (s : State) : State :=
  match s.enroll with
  | some c => if c.format = f ∧ c.owner = l ∧ (s.fmt f).state = .opened then s.restartIdle c else s
  | none => s

/-- The context's format goes to EMPTY and the context is closed (R22, R33). -/
def State.discard (c : EnrollContext) (s : State) : State := { s.emptyFormat c.format with enroll := none }

/-- IDLE_TIMER_EXPIRY: the idle timer has run out and the format is discarded; one that a request taken first has restarted
or suspended has not, and its expiry does not happen (R22, log 4). -/
def execIdleTimerExpiry (s : State) : Host.Outcome State Fault Refusal :=
  match s.enroll with
  | some { format := f, owner := o, idle := some 0 } => .next (s.discard { format := f, owner := o, idle := some 0 })
  | _ => .next s

/-! ## FORMAT-OPEN (R23) -/

/-- A format number goes from EMPTY to OPEN and the context is created (R23). -/
def State.openFormat (l : LinkId) (f : FormatNo) (kind : FormatKind) (s : State) : State :=
  { s.setFmt f { FormatRecord.blank with kind := kind, state := .opened } with
    enroll := some { format := f, owner := l, idle := some idleTime } }

/-- The enrollment unit's side of FORMAT-OPEN, in the order of R23. -/
def ownFormatOpen (l : LinkId) (p : List Byte) (s : State) : State × Answer :=
  match storableOf (byteAt p 0), formatKindOf (byteAt p 1) with
  | some f, some kind =>
    if s.enroll.isSome || s.planPending then (s, .reply .busy [])
    else if (s.fmt f).state ≠ .empty then (s, .reply .state [])
    else (s.openFormat l f kind, .reply .done (num1 f.val ++ bytes2 (s.genOf f)))
  | _, _ => (s, .reply .range [])

/-- FORMAT-OPEN. -/
def execFormatOpen (l : LinkId) (p : List Byte) (s : State) : Host.Outcome State Fault Refusal :=
  .next (s.serve l .formatOpen p (ownFormatOpen l p))

/-! ## ENTRY-ADD (R24 to R26) -/

/-- The value part of an ENTRY-ADD payload for an entry kind code; none for an undefined code (R24, section 11.6). -/
def refValueOf (p : List Byte) : Option RefValue :=
  if byteAt p 4 = 0 then some (.fixed (octet p 6))
  else if byteAt p 4 = 1 then
    some (tunableValue (quad p 6).toInt (half p 10).toNat (half p 12).toNat (half p 14).toNat)
  else none

/-- Whether a tolerance of a TUNABLE request was sent above 5000 (R25). -/
def clamped (p : List Byte) : Bool :=
  byteAt p 4 == 1 && (toleranceLimit < (half p 10).toNat || toleranceLimit < (half p 12).toNat)

/-- An entry takes the place its block id requires (R6, R26). -/
def insertEntry (e : RefEntry) : List RefEntry → List RefEntry
  | [] => [e]
  | x :: xs => if e.id < x.id then e :: x :: xs else x :: insertEntry e xs

/-- Whether a list holds a block id. -/
def holdsBlock (id : Word16) (xs : List RefEntry) : Bool := xs.any (fun e => e.id == id)

/-- The entry enters the slot's list of the context's format and leaves the pool; the idle timer restarts (R26). -/
def State.addEntry (c : EnrollContext) (k : SlotId) (e : RefEntry) (s : State) : State :=
  let r := s.fmt c.format
  { (s.setFmt c.format { r with lists := r.lists.set k (insertEntry e r.lists[k]) }).restartIdle c with
    poolFree := s.poolFree - 1 }

/-- The ENTRY-ADD and ENTRY-DROP counts: length of the slot's list and free count of the pool. -/
def State.listBytes (s : State) (f : FormatNo) (k : SlotId) : List Byte :=
  num2 (s.fmt f).lists[k].length ++ num2 s.poolFree

/-- The enrollment unit's side of ENTRY-ADD, in the order of R21 and R24. -/
def ownEntryAdd (l : LinkId) (p : List Byte) (s : State) : State × Answer :=
  match s.reachContext l (byteAt p 0) with
  | .error r => (s, .reply r [])
  | .ok c =>
    if (s.fmt c.format).state = .sealing then (s, .reply .state [])
    else
      match slotOf (byteAt p 1), presenceOf (byteAt p 5), refValueOf p with
      | some k, some presence, some value =>
        if half p 2 = 0 then (s, .reply .range [])
        else if holdsBlock (half p 2) (s.fmt c.format).lists[k] then (s, .reply .order [])
        else if listLimit ≤ (s.fmt c.format).lists[k].length then (s, .reply .full [])
        else if s.poolFree = 0 then (s, .reply .full [])
        else
          let s' := s.addEntry c k { id := half p 2, presence := presence, value := value }
          (s', .reply (if clamped p then .adjusted else .done)
                (int4 value.limits.1 ++ int4 value.limits.2 ++ s'.listBytes c.format k))
      | _, _, _ => (s, .reply .range [])

/-- ENTRY-ADD. -/
def execEntryAdd (l : LinkId) (p : List Byte) (s : State) : Host.Outcome State Fault Refusal :=
  .next (s.serve l .entryAdd p (ownEntryAdd l p))

/-! ## ENTRY-DROP (R27) -/

/-- The entry leaves the list and returns to the pool; the idle timer restarts (R27). -/
def State.dropEntry (c : EnrollContext) (k : SlotId) (id : Word16) (s : State) : State :=
  let r := s.fmt c.format
  { (s.setFmt c.format { r with lists := r.lists.set k (r.lists[k].eraseP (fun e => e.id == id)) }).restartIdle c with
    poolFree := s.poolFree + 1 }

/-- The enrollment unit's side of ENTRY-DROP, in the order of R21 and R27. -/
def ownEntryDrop (l : LinkId) (p : List Byte) (s : State) : State × Answer :=
  match s.reachContext l (byteAt p 0) with
  | .error r => (s, .reply r [])
  | .ok c =>
    if (s.fmt c.format).state = .sealing then (s, .reply .state [])
    else
      match slotOf (byteAt p 1) with
      | none => (s, .reply .range [])
      | some k =>
        if half p 2 = 0 then (s, .reply .range [])
        else if holdsBlock (half p 2) (s.fmt c.format).lists[k] then
          (s.dropEntry c k (half p 2), .reply .done ((s.dropEntry c k (half p 2)).listBytes c.format k))
        else (s, .reply .range [])

/-- ENTRY-DROP. -/
def execEntryDrop (l : LinkId) (p : List Byte) (s : State) : Host.Outcome State Fault Refusal :=
  .next (s.serve l .entryDrop p (ownEntryDrop l p))

/-! ## FORMAT-SET (R28) -/

/-- A settle window as stored: rounded up to a multiple of 5, then held within 5 to 600 (R28). -/
def storedSettle (sent : Nat) : Nat := min 600 (max 5 ((sent + 4) / 5 * 5))

/-- A presentation interval as stored: below 2 becomes 2 (R28). -/
def storedInterval (sent : Nat) : Nat := max 2 sent

/-- The most characters of a tag (R1). -/
def tagLimit : Nat := 12

/-- A printable character, 0x20 to 0x7E (R3). -/
def printable (b : Byte) : Bool := 0x20 ≤ b.toNat && b.toNat ≤ 0x7E

/-- The tag a FORMAT-SET carries: the characters beyond its length are not read (R164, section 11.6). -/
def tagOf (p : List Byte) : List Byte := (p.drop 2).take (byteAt p 1).toNat

/-- The three adjustable fields take new values; the idle timer restarts (R28). -/
def State.setFields (c : EnrollContext) (tag : List Byte) (settle interval : Nat) (s : State) : State :=
  (s.setFmt c.format { s.fmt c.format with tag := tag, settle := settle, interval := interval }).restartIdle c

/-- The enrollment unit's side of FORMAT-SET, in the order of R21 and R28. -/
def ownFormatSet (l : LinkId) (p : List Byte) (s : State) : State × Answer :=
  match s.reachContext l (byteAt p 0) with
  | .error r => (s, .reply r [])
  | .ok c =>
    if (s.fmt c.format).state = .sealing then (s, .reply .state [])
    else if tagLimit < (byteAt p 1).toNat || !(tagOf p).all printable then (s, .reply .range [])
    else
      let settle := storedSettle (half p 14).toNat
      let interval := storedInterval (byteAt p 16).toNat
      let same := settle == (half p 14).toNat && interval == (byteAt p 16).toNat
      (s.setFields c (tagOf p) settle interval,
       .reply (if same then .done else .adjusted)
         (num1 (tagOf p).length ++ tagBytes (tagOf p) ++ num2 settle ++ num1 interval))

/-- FORMAT-SET. -/
def execFormatSet (l : LinkId) (p : List Byte) (s : State) : Host.Outcome State Fault Refusal :=
  .next (s.serve l .formatSet p (ownFormatSet l p))

/-! ## FORMAT-SEAL (R29) -/

/-- The record goes to SEALING, the idle timer is suspended, the program engine is claimed (R29, R12). -/
def State.beginSeal (l : LinkId) (c : EnrollContext) (s : State) : State :=
  { s.setFmt c.format { s.fmt c.format with state := .sealing } with
    enroll := some { c with idle := none }
    engine := some { job := .seal c.format, claimant := some l } }

/-- The enrollment unit's side of FORMAT-SEAL, in the order of R21 and R29. -/
def ownFormatSeal (l : LinkId) (p : List Byte) (s : State) : State × Answer :=
  match s.reachContext l (byteAt p 0) with
  | .error r => (s, .reply r [])
  | .ok c =>
    if (s.fmt c.format).state = .sealing then (s, .reply .state [])
    else if (s.fmt c.format).participants = 0 then (s, .reply .state [])
    else if s.engine.isSome then (s, .reply .busy [])
    else (s.beginSeal l c, .later)

/-- FORMAT-SEAL. -/
def execFormatSeal (l : LinkId) (p : List Byte) (s : State) : Host.Outcome State Fault Refusal :=
  .next (s.serve l .formatSeal p (ownFormatSeal l p))

/-! ## FORMAT-DISCARD (R33) -/

/-- The enrollment unit's side of FORMAT-DISCARD. -/
def ownFormatDiscard (l : LinkId) (p : List Byte) (s : State) : State × Answer :=
  match s.reachContext l (byteAt p 0) with
  | .error r => (s, .reply r [])
  | .ok c =>
    if (s.fmt c.format).state = .sealing then (s, .reply .busy [])
    else (s.discard c, .reply .done (num2 (s.discard c).poolFree))

/-- FORMAT-DISCARD. -/
def execFormatDiscard (l : LinkId) (p : List Byte) (s : State) : Host.Outcome State Fault Refusal :=
  .next (s.serve l .formatDiscard p (ownFormatDiscard l p))

/-! ## FORMAT-RETIRE (R34) -/

/-- What a verification in flight reads once its format is retired (R9, R52): nothing any more. The walk under way has
examined some blocks, how many is free (log 15); a queued one none. -/
def State.loseList (f : FormatNo) (l : LinkId) (s : State) : Buffer :=
  match s.buffers[l] with
  | .verifying v =>
    if v.format = f ∧ v.lost = none then
      .verifying { v with
        lost := some (if s.comparing = some l then
                        walk (Config.walkProgress s.freeIndex) (s.fmt f).lists[v.slot] v.manifest
                      else ([], v.manifest)) }
    else .verifying v
  | .idle => .idle
  | .assembling d es => .assembling d es

/-- The format goes to EMPTY with its entries freed, the engine is claimed for a retire-erase (R34), and the comparator
reads empty lists of that number from now on (R9). -/
def State.beginRetire (l : LinkId) (f : FormatNo) (s : State) : State :=
  { s.emptyFormat f with
    engine := some { job := .retireErase f, claimant := some l }
    buffers := Vector.ofFn fun j => s.loseList f j
    freeIndex := s.freeIndex + 1 }

/-- The enrollment unit's side of FORMAT-RETIRE, in the order of R34. -/
def ownFormatRetire (l : LinkId) (p : List Byte) (s : State) : State × Answer :=
  match storableOf (byteAt p 0) with
  | none => (s, .reply .range [])
  | some f =>
    if (s.fmt f).state ≠ .sealed then (s, .reply .state [])
    else if s.pinned f then (s, .reply .state [])
    else if s.engine.isSome then (s, .reply .busy [])
    else (s.beginRetire l f, .later)

/-- FORMAT-RETIRE. -/
def execFormatRetire (l : LinkId) (p : List Byte) (s : State) : Host.Outcome State Fault Refusal :=
  .next (s.serve l .formatRetire p (ownFormatRetire l p))

/-! ## FORMAT-READ and ENTRY-READ (R36, R37) -/

/-- The length of a list and the block id of its first entry (R36). -/
def listHead (xs : List RefEntry) : List Byte := num2 xs.length ++ bytes2 ((xs.head?.map RefEntry.id).getD 0)

/-- The owner byte of a format record: 0xFF unless this is the context's format (section 11.6). -/
def State.ownerByte (s : State) (f : FormatNo) : List Byte :=
  match s.enroll with
  | some c => if c.format = f then num1 c.owner.val else [0xFF]
  | none => [0xFF]

/-- The format record of 47 bytes (R36, section 11.6). -/
def State.formatBytes (s : State) (f : FormatNo) : List Byte :=
  let r := s.fmt f
  num1 f.val ++ [r.kind.code, r.state.code] ++ bytes2 (s.genOf f) ++ num1 r.tag.length ++ tagBytes r.tag ++ num2 r.settle
    ++ num1 r.interval ++ set1 r.participants ++ r.lists.toList.flatMap listHead ++ s.ownerByte f

/-- The enrollment unit's side of FORMAT-READ. -/
def ownFormatRead (l : LinkId) (p : List Byte) (s : State) : State × Answer :=
  match formatOf (byteAt p 0) with
  | none => (s, .reply .range [])
  | some f => (s.readRestarts l f, .reply .done (s.formatBytes f))

/-- FORMAT-READ. -/
def execFormatRead (l : LinkId) (p : List Byte) (s : State) : Host.Outcome State Fault Refusal :=
  .next (s.serve l .formatRead p (ownFormatRead l p))

/-- An entry of a list and the block id of the next one, 0 when it is the last (R37). -/
def findEntry (id : Word16) : List RefEntry → Option (RefEntry × Word16)
  | [] => none
  | e :: es => if e.id = id then some (e, (es.head?.map RefEntry.id).getD 0) else findEntry id es

/-- The enrollment unit's side of ENTRY-READ, in the order of R37; found or not, the owner's read restarts the idle
timer (R22). -/
def ownEntryRead (l : LinkId) (p : List Byte) (s : State) : State × Answer :=
  match formatOf (byteAt p 0), slotOf (byteAt p 1) with
  | some f, some k =>
    if half p 2 = 0 then (s, .reply .range [])
    else
      match findEntry (half p 2) (s.fmt f).lists[k] with
      | some (e, next) => (s.readRestarts l f, .reply .done (e.readout next))
      | none => (s.readRestarts l f, .reply .range [])
  | _, _ => (s, .reply .range [])

/-- ENTRY-READ. -/
def execEntryRead (l : LinkId) (p : List Byte) (s : State) : Host.Outcome State Fault Refusal :=
  .next (s.serve l .entryRead p (ownEntryRead l p))

end Sys2Proof.Machine
end

