-- ==== Sys2Proof/Machine/Store.lean ====
section
/-! DEFINITION. The program engine's operations, the line plan, the start-up scan and the resets
(spec/01_formats_and_the_reference_store.md, R11 to R19; R31, R32, R35, R72, R110, R152 to R154). -/

namespace Sys2Proof.Machine

/-! ## Storage steps of the program engine (R13 to R15) -/

/-- The record a seal of `f` writes, with the generation it will have (R13, step 2). -/
def State.recordToSeal (s : State) (f : FormatNo) : SealedRecord :=
  let r := s.fmt f
  { kind := r.kind, tag := r.tag, settle := r.settle, interval := r.interval, generation := nextGen (s.genOf f),
    lists := r.lists }

/-- Writes one format record area; F0 has none (R11). -/
def State.setArea (f : FormatNo) (a : FormatArea) (s : State) : State :=
  if f = 0 then s else { s with areas := s.areas.set f a }

/-- Writes one generation into the stored table. The check of a table that was good stays good; whether that of a table
whose check had failed is good afterwards is free (log 10). -/
def State.writeGenTable (f : FormatNo) (g : Word16) (s : State) : State :=
  { s with
    genTable := s.genTable.set f g
    genTableGood := s.genTableGood || Config.tableCheckAfterWrite s.freeIndex
    freeIndex := s.freeIndex + 1 }

/-- What the first `n` steps of a seal of `f` leave in storage: erase, write, seal mark, generation table (R13). With no
step complete the area holds what it held, an old sealed record among it, the model's choice: log 32. -/
def State.sealSteps (f : FormatNo) (n : Nat) (s : State) : State :=
  match n with
  | 0 => s
  | 1 => s.setArea f .blank
  | 2 => s.setArea f .written
  | 3 => s.setArea f (.sealed (s.recordToSeal f))
  | _ => (s.setArea f (.sealed (s.recordToSeal f))).writeGenTable f (nextGen (s.genOf f))

/-- What the first `n` steps of a retire-erase of `f` leave in storage: retired mark, erase (R14). -/
def State.retireSteps (f : FormatNo) (n : Nat) (s : State) : State :=
  match n with
  | 0 => s
  | 1 => s.setArea f .retired
  | _ => s.setArea f .blank

/-- Writes a plan area. -/
def State.setPlanArea (i : PlanAreaId) (a : PlanArea) (s : State) : State :=
  match i with
  | .a => { s with planA := a }
  | .b => { s with planB := a }

/-- A plan area. -/
def State.planArea (s : State) : PlanAreaId → PlanArea
  | .a => s.planA
  | .b => s.planB

/-- The other plan area. -/
def PlanAreaId.other : PlanAreaId → PlanAreaId
  | .a => .b
  | .b => .a

/-- The next turn number: 3 is followed by 1 (R15). -/
def Turn.next : Turn → Turn
  | .one => .two
  | .two => .three
  | .three => .one

/-- The area a plan write writes: the other area, or A while the default plan is in force (R15). -/
def State.planTarget (s : State) : PlanAreaId :=
  match s.planCurrent with
  | some i => i.other
  | none => .a

/-- The turn number a plan write gives: the current area's plus one, or 1 while the default plan is in force (R15). -/
def State.planTurn (s : State) : Turn :=
  match s.planCurrent with
  | some i =>
    match s.planArea i with
    | .valid _ t => t.next
    | .blank | .written | .validBad => .one
  | none => .one

/-- What the first `n` steps of a plan write leave in storage: erase, write, valid mark, erase of the old area (R15). -/
def State.planSteps (plan : Plan) (n : Nat) (s : State) : State :=
  match n with
  | 0 => s
  | 1 => s.setPlanArea s.planTarget .blank
  | 2 => s.setPlanArea s.planTarget .written
  | 3 => s.setPlanArea s.planTarget (.valid plan s.planTurn)
  | _ => (s.setPlanArea s.planTarget (.valid plan s.planTurn)).setPlanArea s.planTarget.other .blank

/-- What the storage holds of an operation stopped with `n` steps complete (R12 to R15). A stop within the write leaves
what the write leaves. -/
def State.stopEngine (n : Nat) (s : State) : State :=
  match s.engine with
  | some { job := .seal f, .. } => s.sealSteps f n
  | some { job := .retireErase f, .. } => s.retireSteps f n
  | some { job := .planWrite plan, .. } => s.planSteps plan n
  | none => s

/-! ## Completion of a seal (R13, R31, R32) -/

/-- The steps of a seal whose effect the storage holds at its end (R13). The area a failed step leaves: log 9. A step 4 that
fails leaves the generation table and its check as they were, the model's choice: log 31. -/
def sealStepsKept : SealOutcome → Nat
  | .success => 4
  | .eraseFailed => 0
  | .writeFailed => 2
  | .markFailed => 2
  | .tableFailed => 3

/-- Whether the seal mark read back correctly, so that the seal has succeeded (R13). -/
def sealMarked : SealOutcome → Bool
  | .success | .tableFailed => true
  | .eraseFailed | .writeFailed | .markFailed => false

/-- The seal of `f` has succeeded: SEALED, generation advanced, context closed, attention SEAL (R31). -/
def State.finishSeal (f : FormatNo) (s : State) : State :=
  { ((s.setFmt f { s.fmt f with state := .sealed }).setGen f (nextGen (s.genOf f))).raise .seal with
    enroll := none
    engine := none }

/-- The seal of `f` has failed: back to OPEN, idle timer restarted, attention STORE (R32). -/
def State.failSeal (f : FormatNo) (s : State) : State :=
  { (s.setFmt f { s.fmt f with state := .opened }).raise .store with
    enroll := s.enroll.map (fun c => { c with idle := some idleTime })
    engine := none }

/-- SEAL_COMPLETION: the seal in flight ends (R13, R31, R32); with none in flight nothing ends. -/
def execSealCompletion (o : SealOutcome) (s : State) : Host.Outcome State Fault Refusal :=
  match s.engine with
  | some { job := .seal f, claimant := l } =>
    if sealMarked o then
      .next ((((s.sealSteps f (sealStepsKept o)).finishSeal f).raiseIf (o == .tableFailed) .store).respondTo l .done
        (num1 f.val ++ bytes2 (nextGen (s.genOf f))))
    else .next (((s.sealSteps f (sealStepsKept o)).failSeal f).respondTo l .storeFault [])
  | _ => .next s

/-! ## Completion of a retire-erase (R14, R35) -/

/-- RETIRE_ERASE_COMPLETION: the retire-erase in flight ends (R14, R35). -/
def execRetireEraseCompletion (o : RetireOutcome) (s : State) : Host.Outcome State Fault Refusal :=
  match s.engine with
  | some { job := .retireErase f, claimant := l } =>
    match o with
    | .success => .next ({ s.retireSteps f 2 with engine := none }.respondTo l .done (num1 f.val))
    | .eraseFailed =>
      .next (({ s.retireSteps f 1 with engine := none }.raise .store).respondTo l .done (num1 f.val))
    | .markFailed => .next (({ s with engine := none }.raise .store).respondTo l .storeFault [])
  | _ => .next s

/-! ## The line plan (R15, R16, R72, R110, R152 to R154) -/

/-- The limits of R16: one or two ENGINEERING links, at most one SUPERVISOR link, each slot on at most one link. -/
def planOk (plan : Plan) : Bool :=
  let n := plan.toList.countP (· == .engineering)
  1 ≤ n && n ≤ 2 && plan.toList.countP (· == .supervisor) ≤ 1 &&
    (List.finRange 6).all (fun k => plan.toList.countP (· == .controller k) ≤ 1)

/-- The default plan (R16). -/
def defaultPlan : Plan :=
  #v[.engineering, .supervisor, .unbound, .unbound, .unbound, .unbound, .unbound, .unbound]

/-- Whether a buffer's verification is queued or under comparison. -/
def Buffer.isVerifying : Buffer → Bool
  | .verifying _ => true
  | .idle | .assembling _ _ => false

/-- Whether a buffer holds an open assembly. -/
def Buffer.isOpen : Buffer → Bool
  | .assembling _ _ => true
  | .idle | .verifying _ => false

/-- The links whose role or bound slot a new plan changes (R72). -/
def State.rebound (s : State) (plan : Plan) : LinkSet := linksWhere fun l => s.plan[l] != plan[l]

/-- The roles of a new plan take effect on all eight links together (R152): open assemblies of the links it changes are
discarded (R72), and the marker waits for the verifications of those links (R110). -/
def State.takePlan (plan : Plan) (s : State) : State :=
  { s with
    plan := plan
    buffers := Vector.ofFn fun l => if s.plan[l] ≠ plan[l] ∧ s.buffers[l].isOpen then .idle else s.buffers[l]
    planWaits := s.planWaits ||| (s.rebound plan &&& linksWhere fun l => s.buffers[l].isVerifying) }

/-- PLAN-WRITE is accepted: the engine is claimed and the marker is set in the same act (R12, R110, R153). -/
def State.beginPlanWrite (l : LinkId) (plan : Plan) (s : State) : State :=
  { s with engine := some { job := .planWrite plan, claimant := some l }, planWriting := true }

/-- The reference store's side of PLAN-WRITE, in the order of R153. -/
def ownPlanWrite (l : LinkId) (p : List Byte) (s : State) : State × Answer :=
  match planOf p with
  | none => (s, .reply .range [])
  | some plan =>
    if !planOk plan then (s, .reply .range [])
    else if s.enroll.isSome then (s, .reply .busy [])
    else if s.engine.isSome then (s, .reply .busy [])
    else (s.beginPlanWrite l plan, .later)

/-- PLAN-WRITE. -/
def execPlanWrite (l : LinkId) (p : List Byte) (s : State) : Host.Outcome State Fault Refusal :=
  .next (s.serve l .planWrite p (ownPlanWrite l p))

/-- The steps of a plan write whose effect the storage holds at its end (R15; log 9). -/
def planStepsKept : PlanOutcome → Nat
  | .success => 4
  | .eraseFailed => 0
  | .writeFailed => 2
  | .markFailed => 2
  | .oldEraseFailed => 3

/-- Whether the valid mark read back correctly, so that the new plan is in force (R15). -/
def planMarked : PlanOutcome → Bool
  | .success | .oldEraseFailed => true
  | .eraseFailed | .writeFailed | .markFailed => false

/-- The plan write has ended: engine idle, its part of the marker cleared (R12, R110). -/
def State.endPlanWrite (s : State) : State := { s with engine := none, planWriting := false }

/-- PLAN_WRITE_COMPLETION: the plan write in flight ends (R15, R110, R152, R153). -/
def execPlanWriteCompletion (o : PlanOutcome) (s : State) : Host.Outcome State Fault Refusal :=
  match s.engine with
  | some { job := .planWrite plan, claimant := l } =>
    if planMarked o then
      let stored : State := { s.planSteps plan (planStepsKept o) with planCurrent := some s.planTarget }
      .next ((((stored.takePlan plan).endPlanWrite).raiseIf (o == .oldEraseFailed) .store).respondTo l .done [])
    else .next ((((s.planSteps plan (planStepsKept o)).endPlanWrite).raise .store).respondTo l .storeFault [])
  | _ => .next s

/-- The reference store's side of PLAN-READ (R154): the plan in force and the marker. -/
def ownPlanRead (s : State) : State × Answer := (s, .reply .done (Plan.bytes s.plan ++ bool1 s.planPending))

/-- PLAN-READ. -/
def execPlanRead (l : LinkId) (p : List Byte) (s : State) : Host.Outcome State Fault Refusal :=
  .next (s.serve l .planRead p ownPlanRead)

/-! ## The start-up scan (R17 to R19) -/

/-- The record a sealed area restores (R18). -/
def SealedRecord.restored (r : SealedRecord) : FormatRecord :=
  { kind := r.kind, state := .sealed, tag := r.tag, settle := r.settle, interval := r.interval, lists := r.lists }

/-- One format record area visited by the scan (R18). `fails`: the areas whose erase fails its read-back. An intact sealed
record is restored even where the number was OPEN before the reset, the model's choice between R14, R18 and R35, and R20 and
R40: log 33. -/
def State.scanArea (fails : List FormatNo) (s : State) (f : FormatNo) : State :=
  let erased := (if fails.contains f then s else s.setArea f .blank).raise .store
  match s.areas[f] with
  | .blank => s
  | .sealed r =>
    if r.restored.entryCount ≤ s.poolFree then
      { (s.setFmt f r.restored).setGen f r.generation with poolFree := s.poolFree - r.restored.entryCount }
    else erased
  | .written | .sealedBad | .retired => erased

/-- The first part of the scan (R18): every record EMPTY and every entry free at its start, the generations from the
table (all 0 and attention STORE when its check has failed), then the areas of F1 to F31 in ascending number. -/
def State.startUpScan (fails : List FormatNo) (s : State) : State :=
  let s0 : State :=
    { s with
      stage := .scanning
      formats := Vector.replicate 32 FormatRecord.blank
      poolFree := poolSize
      gens := if s.genTableGood then s.genTable else Vector.replicate 32 0 }
  ((List.finRange 32).drop 1).foldl (State.scanArea fails) (s0.raiseIf (!s.genTableGood) .store)

/-- The plan and turn of a usable area (R19). -/
def PlanArea.usable? : PlanArea → Option (Plan × Turn)
  | .valid plan t => if planOk plan then some (plan, t) else none
  | .blank | .written | .validBad => none

/-- Erases a plan area in the scan; an erase that fails its read-back leaves it and sets attention STORE (R18, R19). -/
def State.scanErase (i : PlanAreaId) (fails : Bool) (s : State) : State :=
  if fails then s.raise .store else s.setPlanArea i .blank

/-- An area that is written but not usable is erased, and attention STORE is set (R19). -/
def State.scanPlanArea (i : PlanAreaId) (fails : Bool) (s : State) : State :=
  if s.planArea i ≠ .blank ∧ (s.planArea i).usable? = none then (s.scanErase i fails).raise .store else s

/-- The plan in force after the scan, the area it stands in, and the usable area to be erased with whether its erase
sets attention STORE of itself (R19). -/
def choosePlan (a b : Option (Plan × Turn)) : Plan × Option PlanAreaId × Option (PlanAreaId × Bool) :=
  match a, b with
  | none, none => (defaultPlan, none, none)
  | some (plan, _), none => (plan, some .a, none)
  | none, some (plan, _) => (plan, some .b, none)
  | some (planA, ta), some (planB, tb) =>
    if ta = tb then (planA, some .a, some (.b, true))
    else if ta.next = tb then (planB, some .b, some (.a, false))
    else (planA, some .a, some (.b, false))

/-- The second part of the scan (R19): the plan in force is chosen, its roles reach the link interfaces, and the part
takes requests. -/
def State.endScan (failA failB : Bool) (s : State) : State :=
  let choice := choosePlan s.planA.usable? s.planB.usable?
  let s1 := (s.scanPlanArea .a failA).scanPlanArea .b failB
  let s2 : State :=
    match choice.2.2 with
    | some (i, store) => (s1.scanErase i (if i = .a then failA else failB)).raiseIf store .store
    | none => s1
  { s2 with plan := choice.1, planCurrent := choice.2.1, stage := .running }

/-- SCAN_END: the scan completes (R19); with no scan running none can end. -/
def execScanEnd (failA failB : Bool) (s : State) : Host.Outcome State Fault Refusal :=
  match s.stage with
  | .scanning => .next (s.endScan failA failB)
  | .held | .running => .next s

/-! ## Power-on and pin reset (R12, R17, R40, R74, R94, R114, R125, R141, R156, R162) -/

/-- Every block at its pin-reset values. Storage, pins and levels, residency and timebase are as they were; formats,
generations and roles stand as before the scan (log 14). -/
def State.resetBlocks (s : State) : State :=
  { State.reset with
    pending := s.pending
    stage := s.stage
    rate1 := s.rate1
    rate0 := s.rate0
    links := Vector.ofFn fun l => { Link.atReset with lineLow := s.links[l].lineLow }
    genTable := s.genTable
    genTableGood := s.genTableGood
    areas := s.areas
    planA := s.planA
    planB := s.planB
    residency := s.residency
    timebase := s.timebase
    freeIndex := s.freeIndex }

/-- POWER_ON: power-on values, residency and timebase from 0, and the scan begins (R17, R140, R141); while RESET_N is
still held low the scan waits for its release (R17, log 12). -/
def execPowerOn (stepsDone : Nat) (fails : List FormatNo) (s : State) : Host.Outcome State Fault Refusal :=
  let r : State := { (s.stopEngine stepsDone).resetBlocks with residency := Vector.replicate 5 0, timebase := 0 }
  match s.stage with
  | .held => .next r
  | .scanning | .running => .next (r.startUpScan fails)

/-- PIN_RESET: RESET_N is recognised low (R12, R17). -/
def execPinReset (stepsDone : Nat) (s : State) : Host.Outcome State Fault Refusal :=
  .next { (s.stopEngine stepsDone).resetBlocks with stage := .held }

/-- PIN_RESET_RELEASE: RESET_N returns high and the scan starts (R17, R18); with RESET_N not held low none returns. -/
def execPinResetRelease (fails : List FormatNo) (s : State) : Host.Outcome State Fault Refusal :=
  match s.stage with
  | .held => .next (s.startUpScan fails)
  | .scanning | .running => .next s

end Sys2Proof.Machine
end

