-- ==== Sys2Proof/Machine/Timers.lean ====
section
/-! DEFINITION. The passage of time (log 3): one millisecond of the timers of R22, R88, R101, R140 and R143, and the
events that fall due at its end. -/

namespace Sys2Proof.Machine

/-- A running timer after one millisecond. -/
def countDown (t : Option Nat) : Option Nat := t.map (· - 1)

/-- Whether a timer has run out. -/
def hasRunOut (t : Option Nat) : Bool := t == some 0

/-- Whether the gap of a receiver runs: in LENGTH and BODY (R143). -/
def Receiver.gapRuns : Receiver → Bool
  | .hunt => false
  | .length | .body _ _ => true

/-- A receiver's gap after one millisecond. -/
def Link.age (x : Link) : Link := { x with gap := if x.rx.gapRuns then x.gap + 1 else x.gap }

/-- The settle timer of the line phase, if it runs (R101). -/
def Line.settle? : Line → Option Nat
  | .changeover _ settle => some settle
  | .noFormat | .run | .stalled _ | .service .. => none

/-- The line after one millisecond of its settle timer. -/
def Line.age : Line → Line
  | .changeover c settle => .changeover c (settle - 1)
  | .noFormat => .noFormat
  | .run => .run
  | .stalled c => .stalled c
  | .service kept ret g => .service kept ret g

/-- One millisecond of every running timer and of the 1 s timebase. -/
def State.age (s : State) : State :=
  { s with
    timebase := if s.timebase + 1 < 1000 then s.timebase + 1 else 0
    slots := Vector.ofFn fun k => { s.slots[k] with timer := countDown s.slots[k].timer }
    line := s.line.age
    enroll := s.enroll.map fun c => { c with idle := countDown c.idle }
    links := Vector.ofFn fun l => (s.links[l]).age }

/-- The longest gap between two characters of a frame, in ms (R143). -/
def gapLimit : Nat := 5

/-- Whether the gap of a frame under reception is over the limit (R143). -/
def Link.gapOver (x : Link) : Bool := x.rx.gapRuns && gapLimit < x.gap

/-- The events due after a millisecond, in an order of the model's own (log 3). -/
def State.dueEvents (s : State) : List Instr :=
  (if s.timebase = 0 then [.residencyTick] else [])
    ++ ((List.finRange 6).filter (fun k => hasRunOut s.slots[k].timer)).map .presentationTimerExpiry
    ++ (if hasRunOut s.line.settle? then [.settleTimerExpiry] else [])
    ++ (if s.enroll.any (fun c => hasRunOut c.idle) then [.idleTimerExpiry] else [])
    ++ ((List.finRange 8).filter (fun l => (s.links[l]).gapOver)).map .frameGapTimeout

/-- A step on an empty queue: a millisecond passes, and the events due at its end wait in the queue. -/
def State.idleStep (s : State) : State := { s.age with pending := s.age.dueEvents }

end Sys2Proof.Machine
end

