-- ==== Sys2Proof/Machine/Links.lean ====
section
/-! DEFINITION. The station links at character level (spec/09_station_links.md, R142 to R147, R156): receiving, the
frame check, breaks, transmission, the rate straps; and the frame whose KIND is no request kind (R148 check 2). -/

namespace Sys2Proof.Machine

/-! ## Rate straps (R142) -/

/-- The bit rate the straps set for all eight links (R142). -/
def State.bitRate (s : State) : Nat :=
  match s.rate1, s.rate0 with
  | false, false => 115200
  | false, true => 230400
  | true, false => 460800
  | true, true => 921600

/-- RATE_STRAP_CHANGE: the next character of every receiver and transmitter takes the new rate (R142). -/
def execRateStrapChange (r1 r0 : Bool) (s : State) : Host.Outcome State Fault Refusal :=
  .next { s with rate1 := r1, rate0 := r0 }

/-! ## Frames that reach no block (R143, R144, R148) -/

/-- UNKNOWN: a well-formed frame whose KIND is no request kind is refused with UNKNOWN, after the BUSY check (R148). -/
def execUnknown (l : LinkId) (kind : Byte) (_p : List Byte) (s : State) : Host.Outcome State Fault Refusal :=
  .next (s.take l kind (State.respond l .unknown []))

/-- CRC_MISMATCH: a complete frame is discarded silently, and its receiver is in HUNT (R144). -/
def execCrcMismatch (l : LinkId) (s : State) : Host.Outcome State Fault Refusal := .next (s.frameDone l)

/-- FRAME_GAP_TIMEOUT: the gap is over 5 ms and the frame under reception is discarded. It runs in LENGTH and BODY only, and
a character taken first has ended it (R143, log 4). -/
def execFrameGapTimeout (l : LinkId) (s : State) : Host.Outcome State Fault Refusal :=
  .next (if (s.link l).gapOver then s.frameDone l else s)

/-! ## Receiving a character (R143, R144) -/

/-- A frame with matching CRC goes to the meaning of its KIND (R144, R148). -/
def takeFrame (l : LinkId) (kind : Byte) (p : List Byte) (s : State) : Host.Outcome State Fault Refusal :=
  match kindOf kind with
  | none => execUnknown l kind p s
  | some .ident => execIdent l p s
  | some .statusRead => execStatusRead l p s
  | some .slotRead => execSlotRead l p s
  | some .manifestBegin => execManifestBegin l p s
  | some .manifestPart => execManifestPart l p s
  | some .manifestEnd => execManifestEnd l p s
  | some .lineChange => execLineChange l p s
  | some .lineExtend => execLineExtend l p s
  | some .lineAbandon => execLineAbandon l p s
  | some .serviceEnter => execServiceEnter l p s
  | some .serviceLeave => execServiceLeave l p s
  | some .lineRestart => execLineRestart l p s
  | some .attentionClear => execAttentionClear l p s
  | some .formatOpen => execFormatOpen l p s
  | some .entryAdd => execEntryAdd l p s
  | some .entryDrop => execEntryDrop l p s
  | some .formatSet => execFormatSet l p s
  | some .formatSeal => execFormatSeal l p s
  | some .formatDiscard => execFormatDiscard l p s
  | some .formatRetire => execFormatRetire l p s
  | some .formatRead => execFormatRead l p s
  | some .entryRead => execEntryRead l p s
  | some .planWrite => execPlanWrite l p s
  | some .planRead => execPlanRead l p s
  | some .monitorSet => execMonitorSet l p s
  | some .monitorRead => execMonitorRead l p s
  | some .tripClear => execTripClear l p s

/-- The largest LEN a receiver accepts (R143). -/
def lenLimit : Nat := 196

/-- The frame check of a complete frame: its CRC over LEN, KIND and payload against the two CRC characters (R144). -/
def checkFrame (l : LinkId) (len : Nat) (chars : List Byte) (s : State) : Host.Outcome State Fault Refusal :=
  let covered := BitVec.ofNat 8 len :: chars.take (len + 1)
  if crc16 covered = half chars (len + 1) then takeFrame l (byteAt chars 0) ((chars.drop 1).take len) s
  else .next (s.frameDone l)

/-- The receiver moves, its gap measured anew from this character (R143). -/
def State.setReceiver (l : LinkId) (rx : Receiver) (s : State) : State := s.setLink l { s.link l with rx := rx, gap := 0 }

/-- A character delivered to the frame receiver (R143). -/
def deliver (l : LinkId) (ch : Byte) (s : State) : Host.Outcome State Fault Refusal :=
  match (s.link l).rx with
  | .hunt => .next (if ch = 0xC3 then s.setReceiver l .length else s)
  | .length => .next (s.setReceiver l (if ch.toNat ≤ lenLimit then .body ch.toNat [] else .hunt))
  | .body len chars =>
    if chars.length + 1 < len + 3 then .next (s.setReceiver l (.body len (chars ++ [ch])))
    else checkFrame l len (chars ++ [ch]) s

/-- CHARACTER_RECEIVED: with its stop bit low it is a character fault, which is not delivered and discards the frame
under reception (R142, R143). No character is taken while RESET_N is held low, where the receiver holds its pin-reset
value HUNT (R17, R156), nor while the line stays low after a break (R145). -/
def execCharacterReceived (l : LinkId) (ch : Byte) (stopBitHigh : Bool) (s : State) : Host.Outcome State Fault Refusal :=
  if s.stage = .held ∨ (s.link l).lineLow then .next s
  else if stopBitHigh then deliver l ch s
  else .next (s.frameDone l)

/-! ## Link break (R145) -/

/-- The link interface's own part of a break: frame, service, response, transmission and BUSY answer end (R145). -/
def Link.broken (x : Link) : Link :=
  { x with rx := .hunt, gap := 0, lineLow := true, service := none, busySlot := none, tx := none }

/-- An operation claimed on a link goes on without a response once that link has broken (R12, R145). -/
def Operation.disown (l : LinkId) (o : Operation) : Operation :=
  { o with claimant := if o.claimant = some l then none else o.claimant }

/-- LINK_BREAK: taken once for a line that stays low (R145). -/
def execLinkBreak (l : LinkId) (s : State) : Host.Outcome State Fault Refusal :=
  if (s.link l).lineLow then .next s
  else .next ({ s.setLink l (s.link l).broken with engine := s.engine.map (Operation.disown l) }.cancelManifest l)

/-- LINK_LINE_RETURNS_HIGH: the receiver looks for SYNC again and the line is armed for the next break (R145). -/
def execLinkLineReturnsHigh (l : LinkId) (s : State) : Host.Outcome State Fault Refusal :=
  .next (s.setLink l { s.link l with lineLow := false })

/-! ## Transmission (R146, R147) -/

/-- TRANSMIT_COMPLETE: the transmitter finishes a frame and begins the next (R146, R147). -/
def execTransmitComplete (l : LinkId) (s : State) : Host.Outcome State Fault Refusal :=
  .next (s.setLink l (s.link l).transmitted)

end Sys2Proof.Machine
end

