-- ==== Sys2Proof/Machine/Dispatch.lean ====
section
/-! DEFINITION. The dispatch of a command to its meaning: one arm for each row of spec/opcode_table.json. -/

namespace Sys2Proof.Machine

def exec (i : Instr) (s : State) : Host.Outcome State Fault Refusal :=
  match i with
  | .powerOn n fails => Sys2Proof.Machine.execPowerOn n fails s
  | .pinReset n => Sys2Proof.Machine.execPinReset n s
  | .pinResetRelease fails => Sys2Proof.Machine.execPinResetRelease fails s
  | .scanEnd a b => Sys2Proof.Machine.execScanEnd a b s
  | .linkBreak l => Sys2Proof.Machine.execLinkBreak l s
  | .frameGapTimeout l => Sys2Proof.Machine.execFrameGapTimeout l s
  | .crcMismatch l => Sys2Proof.Machine.execCrcMismatch l s
  | .unknown l kind p => Sys2Proof.Machine.execUnknown l kind p s
  | .transmitComplete l => Sys2Proof.Machine.execTransmitComplete l s
  | .ident l p => Sys2Proof.Machine.execIdent l p s
  | .statusRead l p => Sys2Proof.Machine.execStatusRead l p s
  | .slotRead l p => Sys2Proof.Machine.execSlotRead l p s
  | .manifestBegin l p => Sys2Proof.Machine.execManifestBegin l p s
  | .manifestPart l p => Sys2Proof.Machine.execManifestPart l p s
  | .manifestEnd l p => Sys2Proof.Machine.execManifestEnd l p s
  | .comparisonEnd => Sys2Proof.Machine.execComparisonEnd s
  | .presentationTimerExpiry k => Sys2Proof.Machine.execPresentationTimerExpiry k s
  | .settleTimerExpiry => Sys2Proof.Machine.execSettleTimerExpiry s
  | .idleTimerExpiry => Sys2Proof.Machine.execIdleTimerExpiry s
  | .residencyTick => Sys2Proof.Machine.execResidencyTick s
  | .lineChange l p => Sys2Proof.Machine.execLineChange l p s
  | .lineExtend l p => Sys2Proof.Machine.execLineExtend l p s
  | .lineAbandon l p => Sys2Proof.Machine.execLineAbandon l p s
  | .serviceEnter l p => Sys2Proof.Machine.execServiceEnter l p s
  | .serviceLeave l p => Sys2Proof.Machine.execServiceLeave l p s
  | .lineRestart l p => Sys2Proof.Machine.execLineRestart l p s
  | .attentionClear l p => Sys2Proof.Machine.execAttentionClear l p s
  | .formatOpen l p => Sys2Proof.Machine.execFormatOpen l p s
  | .entryAdd l p => Sys2Proof.Machine.execEntryAdd l p s
  | .entryDrop l p => Sys2Proof.Machine.execEntryDrop l p s
  | .formatSet l p => Sys2Proof.Machine.execFormatSet l p s
  | .formatSeal l p => Sys2Proof.Machine.execFormatSeal l p s
  | .sealCompletion o => Sys2Proof.Machine.execSealCompletion o s
  | .formatDiscard l p => Sys2Proof.Machine.execFormatDiscard l p s
  | .formatRetire l p => Sys2Proof.Machine.execFormatRetire l p s
  | .retireEraseCompletion o => Sys2Proof.Machine.execRetireEraseCompletion o s
  | .formatRead l p => Sys2Proof.Machine.execFormatRead l p s
  | .entryRead l p => Sys2Proof.Machine.execEntryRead l p s
  | .planWrite l p => Sys2Proof.Machine.execPlanWrite l p s
  | .planWriteCompletion o => Sys2Proof.Machine.execPlanWriteCompletion o s
  | .planRead l p => Sys2Proof.Machine.execPlanRead l p s
  | .monitorSet l p => Sys2Proof.Machine.execMonitorSet l p s
  | .tripClear l p => Sys2Proof.Machine.execTripClear l p s
  | .monitorRead l p => Sys2Proof.Machine.execMonitorRead l p s
  | .characterReceived l ch stop => Sys2Proof.Machine.execCharacterReceived l ch stop s
  | .linkLineReturnsHigh l => Sys2Proof.Machine.execLinkLineReturnsHigh l s
  | .rateStrapChange a b => Sys2Proof.Machine.execRateStrapChange a b s

end Sys2Proof.Machine
end

