-- ==== Sys2Proof/Machine/Frames.lean ====
section
/-! DEFINITION. Requests as frames (R143, R144, R163): which request a command is, which command a frame spells, and
the characters of a request frame. -/

namespace Sys2Proof

/-- The link, kind and payload of a request; none for an event. -/
def Instr.request? : Instr → Option (LinkId × ReqKind × List Byte)
  | .ident l p => some (l, .ident, p)
  | .statusRead l p => some (l, .statusRead, p)
  | .slotRead l p => some (l, .slotRead, p)
  | .manifestBegin l p => some (l, .manifestBegin, p)
  | .manifestPart l p => some (l, .manifestPart, p)
  | .manifestEnd l p => some (l, .manifestEnd, p)
  | .lineChange l p => some (l, .lineChange, p)
  | .lineExtend l p => some (l, .lineExtend, p)
  | .lineAbandon l p => some (l, .lineAbandon, p)
  | .serviceEnter l p => some (l, .serviceEnter, p)
  | .serviceLeave l p => some (l, .serviceLeave, p)
  | .lineRestart l p => some (l, .lineRestart, p)
  | .attentionClear l p => some (l, .attentionClear, p)
  | .formatOpen l p => some (l, .formatOpen, p)
  | .entryAdd l p => some (l, .entryAdd, p)
  | .entryDrop l p => some (l, .entryDrop, p)
  | .formatSet l p => some (l, .formatSet, p)
  | .formatSeal l p => some (l, .formatSeal, p)
  | .formatDiscard l p => some (l, .formatDiscard, p)
  | .formatRetire l p => some (l, .formatRetire, p)
  | .formatRead l p => some (l, .formatRead, p)
  | .entryRead l p => some (l, .entryRead, p)
  | .planWrite l p => some (l, .planWrite, p)
  | .planRead l p => some (l, .planRead, p)
  | .monitorSet l p => some (l, .monitorSet, p)
  | .monitorRead l p => some (l, .monitorRead, p)
  | .tripClear l p => some (l, .tripClear, p)
  | .powerOn _ _ | .pinReset _ | .pinResetRelease _ | .scanEnd _ _ | .linkBreak _ | .frameGapTimeout _ | .crcMismatch _
  | .unknown _ _ _ | .transmitComplete _ | .comparisonEnd | .presentationTimerExpiry _ | .settleTimerExpiry
  | .idleTimerExpiry | .residencyTick | .sealCompletion _ | .retireEraseCompletion _ | .planWriteCompletion _
  | .characterReceived _ _ _ | .linkLineReturnsHigh _ | .rateStrapChange _ _ => none

/-- The request of a kind. -/
def requestCommand (l : LinkId) (k : ReqKind) (p : List Byte) : Instr :=
  match k with
  | .ident => .ident l p
  | .statusRead => .statusRead l p
  | .slotRead => .slotRead l p
  | .manifestBegin => .manifestBegin l p
  | .manifestPart => .manifestPart l p
  | .manifestEnd => .manifestEnd l p
  | .lineChange => .lineChange l p
  | .lineExtend => .lineExtend l p
  | .lineAbandon => .lineAbandon l p
  | .serviceEnter => .serviceEnter l p
  | .serviceLeave => .serviceLeave l p
  | .lineRestart => .lineRestart l p
  | .attentionClear => .attentionClear l p
  | .formatOpen => .formatOpen l p
  | .entryAdd => .entryAdd l p
  | .entryDrop => .entryDrop l p
  | .formatSet => .formatSet l p
  | .formatSeal => .formatSeal l p
  | .formatDiscard => .formatDiscard l p
  | .formatRetire => .formatRetire l p
  | .formatRead => .formatRead l p
  | .entryRead => .entryRead l p
  | .planWrite => .planWrite l p
  | .planRead => .planRead l p
  | .monitorSet => .monitorSet l p
  | .monitorRead => .monitorRead l p
  | .tripClear => .tripClear l p

/-- The link, KIND character and payload of a command that is a well-formed frame; none for any other. -/
def Instr.frame? : Instr → Option (LinkId × Byte × List Byte)
  | .unknown l kind p => some (l, kind, p)
  | i => i.request?.map (fun x => (x.1, Machine.kindCode x.2.1, x.2.2))

/-- The command a well-formed frame spells (R148): the request of its KIND, or UNKNOWN. -/
def commandOf (l : LinkId) (kind : Byte) (p : List Byte) : Instr :=
  match Machine.kindOf kind with
  | some k => requestCommand l k p
  | none => .unknown l kind p

/-- The characters of a request frame, in order (R163). -/
def requestFrame (kind : Byte) (p : List Byte) : List Byte :=
  let covered := Machine.num1 p.length ++ [kind] ++ p
  0xC3 :: covered ++ Machine.bytes2 (Machine.crc16 covered)

end Sys2Proof
end

