-- ==== Sys2Proof/Safety.lean ====
section
/-! DEFINITION. The terms the claims use: commands one after another, a link that attends to requests and what it holds
once one is answered, and the invariants the rules state over the part's state. -/

namespace Sys2Proof.Machine

/-! ## Running commands -/

/-- Commands one after another, each on what the one before left. -/
def execAll : List Instr → State → Host.Outcome State Fault Refusal
  | [], s => .next s
  | c :: cs, s =>
    match exec c s with
    | .next t => execAll cs t
    | .fault f => .fault f
    | .refused r => .refused r

/-! ## Requests and answers (R144 to R148) -/

/-- The link takes a request into service: the scan has ended (R144), its line is high (R145), and no other request is
in service on it (R148 check 1). -/
def State.Attends (s : State) (l : LinkId) : Prop :=
  s.stage = .running ∧ (s.link l).lineLow = false ∧ (s.link l).service = none

/-- The link attends to requests and has the role `role` (R149). -/
def State.Hears (s : State) (l : LinkId) (role : Role) : Prop := s.Attends l ∧ s.plan[l] = role

/-- A link whose request of KIND `kind` has its response: on LTXn when the transmitter was free, else waiting (R147). -/
def Link.answering (kind : Byte) (r : Result) (payload : List Byte) (x : Link) : Link :=
  match x.tx with
  | none =>
    { x with
      service := some { kind := kind, progress := .sending }
      tx := some { isBusy := false, chars := Response.frame { kind := kind, result := r, payload := payload } } }
  | some _ =>
    { x with service := some { kind := kind, progress := .ready { kind := kind, result := r, payload := payload } } }

/-- The part after a complete frame on `l` that changed nothing else: its receiver is in HUNT (R143). -/
def State.received (l : LinkId) (s : State) : State := s.setLink l { s.link l with rx := .hunt, gap := 0 }

/-- The part after a request of KIND `kind` on `l` was taken and answered at once, nothing else changed (R146). -/
def State.answered (l : LinkId) (kind : Byte) (r : Result) (payload : List Byte) (s : State) : State :=
  s.setLink l ({ s.link l with rx := .hunt, gap := 0 }.answering kind r payload)

/-- The part after a long request on `l` was taken: it is in service and awaits its response (R146). -/
def State.serving (l : LinkId) (kind : Byte) (s : State) : State :=
  s.setLink l { s.link l with rx := .hunt, gap := 0, service := some { kind := kind, progress := .awaiting } }

/-- The link awaits the response of a request of KIND `kind` (R146). -/
def State.Awaits (s : State) (l : LinkId) (kind : Byte) : Prop :=
  (s.link l).service = some { kind := kind, progress := .awaiting }

/-- The part after the response of the request that `l` awaits was produced, nothing else changed. -/
def State.completed (l : LinkId) (kind : Byte) (r : Result) (payload : List Byte) (s : State) : State :=
  s.setLink l ((s.link l).answering kind r payload)

/-- The link that claimed the engine, if it has not broken, awaits its response (R12). -/
def State.AwaitsClaim (s : State) (claimant : Option LinkId) (kind : Byte) : Prop :=
  ∀ l, claimant = some l → s.Awaits l kind

/-- The part after the response of a long operation was produced on its claiming link, or lost with it (R12). -/
def State.concluded (claimant : Option LinkId) (kind : Byte) (r : Result) (payload : List Byte) (s : State) : State :=
  match claimant with
  | some l => s.completed l kind r payload
  | none => s

/-- The codes that refuse a request (R148). -/
def Result.refuses : Result → Bool
  | .busy | .role | .phase | .range | .order | .full | .state | .frozen | .unknown | .length => true
  | .done | .adjusted | .superseded | .storeFault => false

/-! ## Invariants of the reference store (R1, R2, R3, R6, R8, R16, R20, R44) -/

/-- The entries of all 31 storable formats (F0 holds none). -/
def State.heldEntries (s : State) : Nat := ((List.finRange 32).map (fun n => (s.fmt n).entryCount)).sum

/-- Free entries and held entries always number 2048 (R8). -/
def State.PoolConserved (s : State) : Prop := s.poolFree + s.heldEntries = 2048

/-- A record that is neither OPEN nor SEALING; an EMPTY one holds no entries (R1, R2). -/
def FormatRecord.settled (r : FormatRecord) : Prop := (r.state = .empty ∧ r.entryCount = 0) ∨ r.state = .sealed

/-- The engine has no seal in flight. -/
def State.NoSeal (s : State) : Prop := ∀ f c, s.engine ≠ some { job := .seal f, claimant := c }

/-- At most one format is OPEN or SEALING, and it is the context's: OPEN with the idle timer running and no seal in
flight, or SEALING with the timer suspended and its own seal in flight (R2, R20, R22, R29). -/
def State.ContextSound (s : State) : Prop :=
  match s.enroll with
  | none => s.NoSeal ∧ ∀ n : FormatNo, (s.fmt n).settled
  | some c =>
    s.stage = .running ∧ c.format ≠ 0 ∧
    (((s.fmt c.format).state = .opened ∧ c.idle.isSome = true ∧ s.NoSeal) ∨
      ((s.fmt c.format).state = .sealing ∧ c.idle = none ∧
        ∃ l, s.engine = some { job := .seal c.format, claimant := l })) ∧
    ∀ n : FormatNo, n ≠ c.format → (s.fmt n).settled

/-- A reference list: strictly ascending block ids, none 0, at most 256 entries (R5, R6). -/
def ListSound (xs : List RefEntry) : Prop :=
  xs.length ≤ 256 ∧ xs.Pairwise (fun a b => a.id < b.id) ∧ ∀ e ∈ xs, e.id ≠ 0

/-- The limits of a TUNABLE entry stand on both sides of its nominal within the signed 32-bit range, no further from it
than the widths (R44, R47). -/
def RefValue.bandSound : RefValue → Prop
  | .fixed _ => True
  | .tunable n _ _ _ wlo whi lo hi =>
    -2147483648 ≤ lo ∧ lo ≤ n ∧ n ≤ hi ∧ hi ≤ 2147483647 ∧ n - wlo ≤ lo ∧ hi ≤ n + whi

/-- The six lists of a record. -/
def ListsSound (lists : Vector (List RefEntry) 6) : Prop :=
  ∀ k : SlotId, ListSound lists[k] ∧ ∀ e ∈ lists[k], e.value.bandSound

/-- Every list of every format, and of every sealed record in storage, is sound (R6, R11, R44). -/
def State.StoreListsSound (s : State) : Prop :=
  (∀ n : FormatNo, ListsSound (s.fmt n).lists) ∧
  ∀ (n : FormatNo) (r : SealedRecord), s.areas[n] = .sealed r → ListsSound r.lists

/-- Every sealed or sealing format, and every sealed record in storage, has a non-empty list (R6). -/
def State.SealedHold (s : State) : Prop :=
  (∀ n : FormatNo, n ≠ 0 → (s.fmt n).state = .sealed ∨ (s.fmt n).state = .sealing → ∃ k : SlotId, (s.fmt n).lists[k] ≠ []) ∧
  ∀ (n : FormatNo) (r : SealedRecord), s.areas[n] = .sealed r → ∃ k : SlotId, r.lists[k] ≠ []

/-- The ranges of the three adjustable fields: a tag of at most 12 printable characters, a settle window of 5 to 600 in
steps of 5, a presentation interval of 2 to 255 (R1, R3). -/
def FieldsInRange (tag : List Byte) (settle interval : Nat) : Prop :=
  tag.length ≤ 12 ∧ (∀ b ∈ tag, 0x20 ≤ b.toNat ∧ b.toNat ≤ 0x7E) ∧ 5 ≤ settle ∧ settle ≤ 600 ∧ settle % 5 = 0 ∧
    2 ≤ interval ∧ interval ≤ 255

/-- The adjustable fields of every format, and of every sealed record in storage, are in range (R1, R3, R11). -/
def State.FieldsSound (s : State) : Prop :=
  (∀ n : FormatNo, FieldsInRange (s.fmt n).tag (s.fmt n).settle (s.fmt n).interval) ∧
  ∀ (n : FormatNo) (r : SealedRecord), s.areas[n] = .sealed r → FieldsInRange r.tag r.settle r.interval

/-- The limits of R16: one or two ENGINEERING links, at most one SUPERVISOR link, each slot on at most one link. -/
def Plan.Legal (plan : Plan) : Prop :=
  1 ≤ plan.toList.count .engineering ∧ plan.toList.count .engineering ≤ 2 ∧ plan.toList.count .supervisor ≤ 1 ∧
    ∀ k : SlotId, plan.toList.count (.controller k) ≤ 1

/-- A plan area is usable: a valid mark, a good check and a plan within the limits of R16 (R19). -/
def PlanArea.Usable (a : PlanArea) (plan : Plan) (turn : Turn) : Prop := a = .valid plan turn ∧ plan.Legal

/-- Once the scan has ended the plan in force is within the limits of R16, and a plan being written always is (R16, R19,
R153). -/
def State.PlansSound (s : State) : Prop :=
  (s.stage = .running → s.plan.Legal) ∧
    ∀ (plan : Plan) (l : Option LinkId), s.engine = some { job := .planWrite plan, claimant := l } → plan.Legal

/-! ## Invariants of the line phase controller (R95, R100, R106, R109) -/

/-- A storable format that is SEALED and of the given kind. -/
def State.Stores (s : State) (n : FormatNo) (kind : FormatKind) : Prop :=
  n ≠ 0 ∧ (s.fmt n).state = .sealed ∧ (s.fmt n).kind = kind

/-- The formats of the line by phase: F0 in NOFORMAT, SEALED ones of the right kind in the others; the origin of a
changeover is the active format, and its extensions are at most 3. -/
def State.PhaseSound (s : State) : Prop :=
  match s.line with
  | .noFormat => s.active = 0
  | .run => s.Stores s.active .production
  | .changeover c _ | .stalled c =>
    s.Stores c.target .production ∧ c.origin = s.active ∧ c.extensions ≤ 3 ∧
      (s.active = 0 ∨ s.Stores s.active .production ∨ c.cause = .serviceReturn ∧ s.Stores s.active .service)
  | .service _ ret _ => s.Stores s.active .service ∧ (ret = 0 ∨ s.Stores ret .production)

/-- The line by phase; before the start-up scan has ended the line is in NOFORMAT (R17). -/
def State.RolesSound (s : State) : Prop := s.PhaseSound ∧ (s.stage ≠ .running → s.line = .noFormat)

/-! ## The drift monitor (R126 to R131) -/

/-- A counter whose flag is set is enabled (R126). -/
def State.TripsEnabled (s : State) : Prop := ∀ i : CounterNo, s.counters[i].flag = true → s.counters[i].enable = true

/-- The position in the event set of the block event of a class; MATCH has none (R127, R164). -/
def BlockClass.EventAt (c : BlockClass) (bit : Nat) : Prop :=
  (c = .inband ∧ bit = 0) ∨ (c = .absent ∧ bit = 1) ∨ (c = .offband ∧ bit = 2) ∨ (c = .altered ∧ bit = 3) ∨
    (c = .unset ∧ bit = 4) ∨ (c = .missing ∧ bit = 5) ∨ (c = .extra ∧ bit = 6)

/-- The score passes a counter's threshold (R130). -/
def Counter.Reaches (c : Counter) (score : Nat) : Prop :=
  (c.invert = false ∧ c.threshold.toNat ≤ score) ∨ (c.invert = true ∧ score < c.threshold.toNat)

/-- Conditions 3 to 6 of R128: the event's kind is in the event set, and it passes the slot filter (R129), the
threshold (R130) and the edge test (R131). -/
def MonitorEvent.Selected (e : MonitorEvent) (c : Counter) : Prop :=
  match e with
  | .block k _ cls score prior =>
    (∃ bit, cls.EventAt bit ∧ c.events.getLsbD bit = true) ∧ c.filter.getLsbD k.val = true ∧
      (cls = .inband ∨ cls = .offband → c.Reaches (score.getD 0)) ∧ (c.edge = true → prior ≠ some cls)
  | .verdictRefused k prior =>
    c.events.getLsbD 7 = true ∧ c.filter.getLsbD k.val = true ∧ (c.edge = true → prior ≠ .refused)
  | .stale k => c.events.getLsbD 8 = true ∧ c.filter.getLsbD k.val = true
  | .lapsed k => c.events.getLsbD 9 = true ∧ c.filter.getLsbD k.val = true
  | .stall => c.events.getLsbD 10 = true ∧ c.filter.getLsbD 6 = true
  | .abandon => c.events.getLsbD 11 = true ∧ c.filter.getLsbD 6 = true

/-- The event counts for the counter (R128). -/
def MonitorEvent.CountsFor (e : MonitorEvent) (s : State) (i : CounterNo) : Prop :=
  s.counters[i].enable = true ∧ s.frozen = false ∧ e.Selected s.counters[i]

/-- The slot trackers stand as before but for hold and permit. -/
def State.SameCustody (s t : State) : Prop :=
  ∀ k : SlotId, t.slots[k].verdict = s.slots[k].verdict ∧ t.slots[k].timer = s.slots[k].timer ∧
    t.slots[k].memory = s.slots[k].memory ∧ t.slots[k].summary = s.slots[k].summary

/-- What one event leaves: every counter it counts for is raised by one, with its flag set when it wraps; attention TRIP
is set when one wraps; holds and permits follow; all else is as it was (R128, R132 to R135). -/
def State.Counted (s : State) (e : MonitorEvent) (t : State) : Prop :=
  (∀ i : CounterNo,
    (e.CountsFor s i → t.counters[i] =
      { s.counters[i] with
        value := s.counters[i].value + 1, flag := s.counters[i].flag || s.counters[i].value == 0xFFFFFF }) ∧
    (¬ e.CountsFor s i → t.counters[i] = s.counters[i])) ∧
  ((∃ i, e.CountsFor s i ∧ s.counters[i].value = 0xFFFFFF) → t.attention = s.attention ||| 0x080) ∧
  ((¬ ∃ i, e.CountsFor s i ∧ s.counters[i].value = 0xFFFFFF) → t.attention = s.attention) ∧
  (∀ k : SlotId,
    (t.slots[k].hold = true ↔
      ∃ i : CounterNo, t.counters[i].enable = true ∧ t.counters[i].flag = true ∧ t.counters[i].action = .drop ∧
        t.counters[i].filter.getLsbD k.val = true)) ∧
  s.SameCustody t ∧
  t = { s with counters := t.counters, attention := t.attention, slots := t.slots }

/-! ## Invariants of the slot trackers and the line (R88, R90, R95, R103, R135) -/

/-- Every permit is at the level R90 gives it, and every hold is the one R135 derives. -/
def State.PermitsFollow (s : State) : Prop :=
  ∀ k : SlotId,
    (s.slots[k].hold = true ↔
      ∃ i : CounterNo, s.counters[i].enable = true ∧ s.counters[i].flag = true ∧ s.counters[i].action = .drop ∧
        s.counters[i].filter.getLsbD k.val = true) ∧
    (s.slots[k].permit = true ↔
      (s.line = .run ∨ ∃ kept ret g, s.line = .service kept ret g) ∧
      (s.slots[k].verdict = .cleared ∨ s.slots[k].verdict = .trimmed ∨ s.slots[k].verdict = .stale) ∧
      s.slots[k].hold = false)

/-- Every ready slot is a participant whose verdict released it (R103, R105). -/
def State.ReadySound (s : State) : Prop :=
  ∀ c, s.line.changeover? = some c → ∀ k : SlotId, inSet c.ready k = true →
    inSet c.participants k = true ∧ (s.slots[k].verdict = .cleared ∨ s.slots[k].verdict = .trimmed)

/-- A presentation timer runs only in RUN and SERVICE under CLEARED, TRIMMED or STALE (R88). -/
def State.TimersSound (s : State) : Prop :=
  ∀ k : SlotId, s.slots[k].timer.isSome = true →
    (s.line = .run ∨ ∃ kept ret g, s.line = .service kept ret g) ∧
    (s.slots[k].verdict = .cleared ∨ s.slots[k].verdict = .trimmed ∨ s.slots[k].verdict = .stale)

/-! ## Invariants of the assembler and the comparator (R59, R75, R76) -/

/-- An OPEN buffer holds at most its declared count of entries, a VERIFYING one at least one entry; their block ids
rise strictly and none is 0 (R59, R65). -/
def Buffer.Sound : Buffer → Prop
  | .idle => True
  | .assembling declared es =>
    1 ≤ declared ∧ declared ≤ 256 ∧ es.length ≤ declared ∧ es.Pairwise (fun a b => a.id < b.id) ∧ ∀ e ∈ es, e.id ≠ 0
  | .verifying v =>
    1 ≤ v.manifest.length ∧ v.manifest.length ≤ 256 ∧ v.manifest.Pairwise (fun a b => a.id < b.id) ∧
      ∀ e ∈ v.manifest, e.id ≠ 0

/-- Whether a link's verification is queued or under comparison. -/
def State.InComparator (s : State) (l : LinkId) : Prop := l ∈ s.queue ∨ s.comparing = some l

/-- The comparator holds each VERIFYING buffer's link once and no other, and is idle only when none waits; such a link
awaits its MANIFEST-END (R69, R75, R76). -/
def State.ComparatorSound (s : State) : Prop :=
  s.queue.Nodup ∧ (∀ l, s.comparing = some l → l ∉ s.queue) ∧ (s.comparing = none → s.queue = []) ∧
  ∀ l : LinkId, (s.InComparator l ↔ ∃ v, s.buffers[l] = .verifying v) ∧
    (s.InComparator l → s.Awaits l 0x12)

/-- Buffers and comparator. -/
def State.ManifestsSound (s : State) : Prop := (∀ l : LinkId, s.buffers[l].Sound) ∧ s.ComparatorSound

/-! ## Invariants of the links (R12, R146, R147) -/

/-- A response is on LTXn exactly while its request is being answered, and a free transmitter leaves nothing waiting
(R146, R147). -/
def Link.Sound (x : Link) : Prop :=
  ((∃ chars, x.tx = some { isBusy := false, chars := chars }) ↔ ∃ k, x.service = some { kind := k, progress := .sending }) ∧
  (x.tx = none → x.busySlot = none ∧ ∀ k r, x.service ≠ some { kind := k, progress := .ready r })

/-- The KIND of the request that claims the engine for an operation (R12). -/
def Job.requestKind : Job → Byte
  | .seal _ => 0x34
  | .retireErase _ => 0x36
  | .planWrite _ => 0x39

/-- The link that claimed the engine awaits that request's response (R12, R146). -/
def State.ClaimSound (s : State) : Prop :=
  ∀ (o : Operation) (l : LinkId), s.engine = some o → o.claimant = some l → s.Awaits l o.job.requestKind

/-- The links. -/
def State.LinksSound (s : State) : Prop := (∀ l : LinkId, (s.link l).Sound) ∧ s.ClaimSound

end Sys2Proof.Machine
end

