-- ==== Sys2Proof/WellFormed.lean ====
section
/-! DEFINITION. Well-formed commands: the operands a command can bring (R12 to R15, R18, R143, R148). -/

namespace Sys2Proof

/-- A payload is at most 196 bytes: a receiver discards a frame with a larger LEN (R143). -/
def payloadFits (i : Instr) : Bool := i.payload.length ≤ 196

/-- The KIND of UNKNOWN is none of the 27 request kinds (R148 check 2). -/
def kindUnknown (i : Instr) : Bool :=
  match i with
  | .unknown _ kind _ => (Machine.kindOf kind).isNone
  | _ => true

/-- An operation of the program engine has at most four steps (R13 to R15). -/
def stepsFit (i : Instr) : Bool :=
  match i with
  | .powerOn n _ => n ≤ 4
  | .pinReset n => n ≤ 4
  | _ => true

/-- The scan erases areas of F1 to F31; F0 has none (R11, R18). -/
def erasesFit (i : Instr) : Bool :=
  match i with
  | .powerOn _ fails => fails.all (· ≠ 0)
  | .pinResetRelease fails => fails.all (· ≠ 0)
  | _ => true

/-- A well-formed command. -/
def wf (i : Instr) : Bool := payloadFits i && kindUnknown i && stepsFit i && erasesFit i

end Sys2Proof
end

