-- ==== Sys2Proof/Certificates/Slice0/Obligations.lean ====
section
/-! DEFINITION. The statements about the ZT416 for the provers. Each docstring names the rules it formalises, and the log
entry where a clause rests on a choice of the model. `answered`, `serving`, `completed` and `concluded` (Safety.lean) say
what the link holds; an equation of the whole next state is the frame. -/

open Sys2Proof Sys2Proof.Machine

/-! ## The queue and the passage of time -/

/-- The step takes the command at the front of the queue and runs it on the state with the queue's rest. -/
def Obligations.StepRunsTheFrontCommand : Prop :=
  ∀ (c : Instr) (rest : List Instr) (s : State), s.pending = c :: rest → step s = exec c { s with pending := rest }

/-- Every command answers a next state and leaves the queue alone: none faults or refuses (R148, R144). -/
def Obligations.EveryCommandAnswersANextState : Prop :=
  ∀ (c : Instr) (s : State), ∃ t, exec c s = .next t ∧ t.pending = s.pending

/-- A step on an empty queue is one millisecond (log 3): the 1 s timebase (R140), the presentation timers (R88), the
settle timer (R101), the idle timer (R22) and the frame gaps (R143) move on, exactly the events that fall due wait in the
queue, and nothing else changes. -/
def Obligations.EmptyQueuePassesAMillisecond : Prop :=
  ∀ s : State, s.pending = [] → ∃ t, step s = .next t ∧
    t = { s with pending := t.pending, timebase := t.timebase, slots := t.slots, line := t.line, enroll := t.enroll,
                 links := t.links } ∧
    (s.timebase < 999 → t.timebase = s.timebase + 1) ∧ (999 ≤ s.timebase → t.timebase = 0) ∧
    (Instr.residencyTick ∈ t.pending ↔ t.timebase = 0) ∧
    (∀ k : SlotId, t.slots[k] = { s.slots[k] with timer := s.slots[k].timer.map (· - 1) } ∧
      (Instr.presentationTimerExpiry k ∈ t.pending ↔ ∃ m, s.slots[k].timer = some m ∧ m ≤ 1)) ∧
    (∀ c m, s.line = .changeover c m → t.line = .changeover c (m - 1) ∧ (Instr.settleTimerExpiry ∈ t.pending ↔ m ≤ 1)) ∧
    ((∀ c m, s.line ≠ .changeover c m) → t.line = s.line ∧ Instr.settleTimerExpiry ∉ t.pending) ∧
    t.enroll = s.enroll.map (fun c => { c with idle := c.idle.map (· - 1) }) ∧
    (Instr.idleTimerExpiry ∈ t.pending ↔ ∃ c m, s.enroll = some c ∧ c.idle = some m ∧ m ≤ 1) ∧
    (∀ l : LinkId,
      t.link l = { s.link l with gap := if (s.link l).rx = .hunt then (s.link l).gap else (s.link l).gap + 1 } ∧
      (Instr.frameGapTimeout l ∈ t.pending ↔ (s.link l).rx ≠ .hunt ∧ 5 < (s.link l).gap + 1)) ∧
    (∀ c ∈ t.pending, c = .residencyTick ∨ c = .settleTimerExpiry ∨ c = .idleTimerExpiry ∨
      (∃ k, c = .presentationTimerExpiry k) ∨ ∃ l, c = .frameGapTimeout l)

/-! ## Power, reset and the start-up scan -/

/-- State.reset: NOFORMAT with F0 active and epoch 0 (R114), trackers (R94), counters and residency (R141), no context
(R40), buffers and comparator (R74), links in HUNT with nothing in service (R156), flags clear (R162), engine idle (R17),
F0 hard-wired (R1). That it is a part with blank storage during its scan is log 1. -/
def Obligations.ResetValues : Prop :=
  State.reset.stage = .scanning ∧ State.reset.line = .noFormat ∧ State.reset.active = 0 ∧ State.reset.epoch = 0 ∧
  (∀ k : SlotId, State.reset.slots[k] =
    { verdict := .none, permit := false, hold := false, timer := none, memory := none, summary := none }) ∧
  (∀ i : CounterNo, State.reset.counters[i] =
    { value := 0, flag := false, enable := false, events := 0, filter := 0, threshold := 0, invert := false, edge := false,
      action := .note }) ∧
  (∀ i : Fin 5, State.reset.residency[i] = 0) ∧ State.reset.enroll = none ∧ State.reset.engine = none ∧
  (∀ l : LinkId, State.reset.buffers[l] = .idle ∧ (State.reset.link l).rx = .hunt ∧ (State.reset.link l).service = none ∧
    (State.reset.link l).busySlot = none ∧ (State.reset.link l).tx = none) ∧
  State.reset.queue = [] ∧ State.reset.comparing = none ∧ State.reset.planPending = false ∧ State.reset.attention = 0 ∧
  State.reset.poolFree = 2048 ∧ State.reset.genOf 0 = 0 ∧ (State.reset.fmt 0).state = .sealed ∧
  (State.reset.fmt 0).kind = .production ∧ (State.reset.fmt 0).settle = 60 ∧ (State.reset.fmt 0).interval = 30

/-- PIN_RESET: every block at its pin-reset value, whatever it held; residency, timebase, straps and line levels stay
(R17, R40, R74, R94, R114, R125, R140, R141, R156, R162; the levels of straps and lines: log 13). POWER_ON is a pin reset
with its release, the residency counters and the timebase at 0; while RESET_N is held low the scan waits for the release
(log 12). -/
def Obligations.ResetsClearTheBlocks : Prop :=
  (∀ (n : Nat) (s : State), ∃ t, exec (.pinReset n) s = .next t ∧
     t.stage = .held ∧ t.line = .noFormat ∧ t.active = 0 ∧ t.epoch = 0 ∧ t.enroll = none ∧ t.engine = none ∧
     (∀ k : SlotId, t.slots[k] =
       { verdict := .none, permit := false, hold := false, timer := none, memory := none, summary := none }) ∧
     (∀ i : CounterNo, t.counters[i] =
       { value := 0, flag := false, enable := false, events := 0, filter := 0, threshold := 0, invert := false,
         edge := false, action := .note }) ∧
     (∀ l : LinkId, t.buffers[l] = .idle ∧
       t.link l = { rx := .hunt, gap := 0, lineLow := (s.link l).lineLow, service := none, busySlot := none, tx := none }) ∧
     t.queue = [] ∧ t.comparing = none ∧ t.planWriting = false ∧ t.planWaits = 0 ∧ t.attention = 0 ∧
     t.residency = s.residency ∧ t.timebase = s.timebase ∧ t.rate1 = s.rate1 ∧ t.rate0 = s.rate0) ∧
  ∀ (n : Nat) (fails : List FormatNo) (s : State), ∃ r, exec (.pinReset n) s = .next r ∧
    (s.stage ≠ .held → exec (.powerOn n fails) s =
      exec (.pinResetRelease fails) { r with residency := Vector.replicate 5 0, timebase := 0 }) ∧
    (s.stage = .held → exec (.powerOn n fails) s =
      .next { r with residency := Vector.replicate 5 0, timebase := 0 })

/-- What PIN_RESET leaves in storage of an operation stopped with `n` steps complete (R12, R13, R14, R15, R18); with the
engine idle the storage is as it was. `n` is an operand of the command (log 8); that a seal of which no step is complete
leaves what its area held is log 32. -/
def Obligations.ResetStopsTheEngine : Prop :=
  ∀ (n : Nat) (s : State), ∃ t, exec (.pinReset n) s = .next t ∧
    ((s.engine = none ∨ n = 0) →
      t.areas = s.areas ∧ t.genTable = s.genTable ∧ t.genTableGood = s.genTableGood ∧ t.planA = s.planA ∧
        t.planB = s.planB) ∧
    (∀ (f : FormatNo) (c : Option LinkId) (g : Word16), f ≠ 0 → s.engine = some { job := .seal f, claimant := c } →
      g = (if s.genOf f = 65535 then 1 else s.genOf f + 1) →
        (n = 1 → t.areas = s.areas.set f .blank) ∧ (n = 2 → t.areas = s.areas.set f .written) ∧
        (3 ≤ n → t.areas = s.areas.set f (.sealed
          { kind := (s.fmt f).kind, tag := (s.fmt f).tag, settle := (s.fmt f).settle, interval := (s.fmt f).interval,
            generation := g, lists := (s.fmt f).lists })) ∧
        (n ≤ 3 → t.genTable = s.genTable) ∧ (4 ≤ n → t.genTable = s.genTable.set f g) ∧ t.planA = s.planA ∧
        t.planB = s.planB) ∧
    (∀ (f : FormatNo) (c : Option LinkId), f ≠ 0 → s.engine = some { job := .retireErase f, claimant := c } →
      (n = 1 → t.areas = s.areas.set f .retired) ∧ (2 ≤ n → t.areas = s.areas.set f .blank) ∧ t.genTable = s.genTable ∧
        t.planA = s.planA ∧ t.planB = s.planB) ∧
    (∀ (plan : Plan) (c : Option LinkId) (turn : Turn), s.engine = some { job := .planWrite plan, claimant := c } →
      t.areas = s.areas ∧ t.genTable = s.genTable ∧
      (s.planCurrent = none → turn = .one →
        (n = 1 → t.planA = .blank) ∧ (n = 2 → t.planA = .written) ∧ (3 ≤ n → t.planA = .valid plan turn) ∧
        (n ≤ 3 → t.planB = s.planB) ∧ (4 ≤ n → t.planB = .blank)) ∧
      (∀ old, s.planCurrent = some .a → s.planA = .valid old turn →
        (n = 1 → t.planB = .blank) ∧ (n = 2 → t.planB = .written) ∧
        (3 ≤ n → ∃ next, t.planB = .valid plan next ∧
          ((turn = .one ∧ next = .two) ∨ (turn = .two ∧ next = .three) ∨ (turn = .three ∧ next = .one))) ∧
        (n ≤ 3 → t.planA = s.planA) ∧ (4 ≤ n → t.planA = .blank)) ∧
      (∀ old, s.planCurrent = some .b → s.planB = .valid old turn →
        (n = 1 → t.planA = .blank) ∧ (n = 2 → t.planA = .written) ∧
        (3 ≤ n → ∃ next, t.planA = .valid plan next ∧
          ((turn = .one ∧ next = .two) ∨ (turn = .two ∧ next = .three) ∨ (turn = .three ∧ next = .one))) ∧
        (n ≤ 3 → t.planB = s.planB) ∧ (4 ≤ n → t.planB = .blank)))

/-- The entries of the formats below `f`: what the scan has taken from the pool when it comes to `f` (R18). -/
def entriesBelow (t : State) (f : FormatNo) : Nat :=
  (((List.finRange 32).filter (· < f)).map (fun g => (t.fmt g).entryCount)).sum

/-- PIN_RESET_RELEASE starts the scan (R17, R18): a sealed record that fits comes back SEALED with its own generation;
every other number is EMPTY with the table's generation, or 0 where the table's check failed; what was written but not
restored is erased, unless its erase fails; STORE is set exactly where R18 says; the pool is rebuilt. That all this takes
effect at the release is log 29, that the erases which fail are an operand of the command is log 11, and that an intact
record comes back even where its number was OPEN before the reset is log 33. -/
def Obligations.ScanRestoresWhatIsSealed : Prop :=
  ∀ (fails : List FormatNo) (s : State), s.stage = .held → ∃ t, exec (.pinResetRelease fails) s = .next t ∧
    t = { s with stage := .scanning, formats := t.formats, gens := t.gens, poolFree := t.poolFree, areas := t.areas,
                 attention := t.attention } ∧
    t.poolFree + t.heldEntries = 2048 ∧
    (∀ (f : FormatNo) (r : SealedRecord), f ≠ 0 → s.areas[f] = .sealed r →
      (r.lists.toList.map List.length).sum + entriesBelow t f ≤ 2048 →
        t.fmt f = { kind := r.kind, state := .sealed, tag := r.tag, settle := r.settle, interval := r.interval,
                    lists := r.lists } ∧
        t.genOf f = r.generation ∧ t.areas[f] = s.areas[f]) ∧
    (∀ f : FormatNo, f ≠ 0 →
      (∀ r, s.areas[f] = .sealed r → 2048 < (r.lists.toList.map List.length).sum + entriesBelow t f) →
        t.fmt f = { kind := .production, state := .empty, tag := [], settle := 60, interval := 30,
                    lists := Vector.replicate 6 [] } ∧
        t.genOf f = (if s.genTableGood then s.genTable[f] else 0) ∧
        t.areas[f] = (if f ∈ fails then s.areas[f] else .blank)) ∧
    (∀ fl : Flag, fl ≠ .store → t.flagged fl = s.flagged fl) ∧
    (t.flagged .store = true ↔ s.flagged .store = true ∨ s.genTableGood = false ∨
      ∃ f : FormatNo, f ≠ 0 ∧ s.areas[f] ≠ .blank ∧
        ∀ r, s.areas[f] = .sealed r → 2048 < (r.lists.toList.map List.length).sum + entriesBelow t f)

/-- SCAN_END (R19): the plan in force is the default plan when no area is usable, the usable one, the one with the next
turn number, or that of area A on equal turns; the other area is erased unless its erase fails; STORE is set exactly
where R18 and R19 say; the part takes requests from then on. That the erases which fail are operands is log 11. -/
def Obligations.ScanEndChoosesThePlan : Prop :=
  ∀ (failA failB : Bool) (s : State), s.stage = .scanning → ∃ t, exec (.scanEnd failA failB) s = .next t ∧
    t = { s with stage := .running, plan := t.plan, planCurrent := t.planCurrent, planA := t.planA, planB := t.planB,
                 attention := t.attention } ∧
    ((∀ p n, ¬ s.planA.Usable p n) → (∀ p n, ¬ s.planB.Usable p n) → t.planCurrent = none ∧
      t.plan = #v[.engineering, .supervisor, .unbound, .unbound, .unbound, .unbound, .unbound, .unbound]) ∧
    (∀ p n, s.planA.Usable p n → (∀ q m, ¬ s.planB.Usable q m) → t.plan = p ∧ t.planCurrent = some .a) ∧
    (∀ q m, s.planB.Usable q m → (∀ p n, ¬ s.planA.Usable p n) → t.plan = q ∧ t.planCurrent = some .b) ∧
    (∀ p n q m, s.planA.Usable p n → s.planB.Usable q m →
      (n = m → t.plan = p ∧ t.planCurrent = some .a) ∧
      ((n, m) ∈ [(Turn.one, Turn.two), (Turn.two, Turn.three), (Turn.three, Turn.one)] →
        t.plan = q ∧ t.planCurrent = some .b) ∧
      ((m, n) ∈ [(Turn.one, Turn.two), (Turn.two, Turn.three), (Turn.three, Turn.one)] →
        t.plan = p ∧ t.planCurrent = some .a)) ∧
    t.planA = (if t.planCurrent = some .a ∨ failA then s.planA else .blank) ∧
    t.planB = (if t.planCurrent = some .b ∨ failB then s.planB else .blank) ∧
    (∀ fl : Flag, fl ≠ .store → t.flagged fl = s.flagged fl) ∧
    (t.flagged .store = true ↔ s.flagged .store = true ∨
      (s.planA ≠ .blank ∧ ∀ p n, ¬ s.planA.Usable p n) ∨ (s.planB ≠ .blank ∧ ∀ q m, ¬ s.planB.Usable q m) ∨
      ∃ p n q m, s.planA.Usable p n ∧ s.planB.Usable q m ∧
        (n = m ∨ (t.planCurrent = some .a ∧ failB = true) ∨ (t.planCurrent = some .b ∧ failA = true)))

/-! ## Station links -/

/-- A well-formed command that stands for a frame, one of the 27 requests or UNKNOWN (log 5), sent as the characters of that
frame, runs as itself: the frame keeps its KIND, its link and every payload byte (R163). The characters of a request frame
and of a response frame are those of section 11.1, with the result codes of section 11.2 and the CRC-16 of R163; the third
character of an answer to a KIND of 0x80 or more is free (log 7). -/
def Obligations.RequestsReadBackFromTheirFrames : Prop :=
  (∀ (i : Instr) (s : State) (l : LinkId) (kind : Byte) (p : List Byte), wf i = true → i.frame? = some (l, kind, p) →
    s.stage ≠ .held → (s.link l).lineLow = false → (s.link l).rx = .hunt →
    execAll ((requestFrame kind p).map (fun ch => .characterReceived l ch true)) s = exec i s) ∧
  (∀ (kind : Byte) (p : List Byte), ∃ hi lo : Byte,
    requestFrame kind p = [0xC3, BitVec.ofNat 8 p.length, kind] ++ p ++ [hi, lo] ∧
    hi ++ lo = crc16 (BitVec.ofNat 8 p.length :: kind :: p)) ∧
  (∀ r : Response, r.payload.length ≤ 255 → ∃ third code hi lo : Byte,
    (r.kind.toNat < 0x80 → third.toNat = r.kind.toNat + 0x80) ∧
    (r.result, code) ∈ [(Result.done, (0x00 : Byte)), (.adjusted, 0x01), (.busy, 0x10), (.role, 0x11), (.phase, 0x12),
      (.range, 0x13), (.order, 0x14), (.full, 0x15), (.state, 0x16), (.frozen, 0x17), (.unknown, 0x18),
      (.superseded, 0x19), (.storeFault, 0x1A), (.length, 0x1B)] ∧
    r.frame = [0xC3, BitVec.ofNat 8 r.payload.length, third, code] ++ r.payload ++ [hi, lo] ∧
    hi ++ lo = crc16 (BitVec.ofNat 8 r.payload.length :: third :: code :: r.payload)) ∧
  crc16 [] = 0xFFFF ∧
  ∀ (cs : List Byte) (c : Byte), crc16 (cs ++ [c]) =
    (fun x : Word16 => if x.msb then (x <<< 1) ^^^ 0x1021 else x <<< 1)^[8] (crc16 cs ^^^ (c ++ (0 : Byte)))

/-- RATE_STRAP_CHANGE sets the bit rate of all links, and nothing else (R142). CHARACTER_RECEIVED, FRAME_GAP_TIMEOUT and
CRC_MISMATCH move the receiver as the table of R143 says; a complete frame whose CRC matches is the command it spells, and
any other is discarded (R144). No character is taken while the line is low after a break (R145). That none is taken while
RESET_N is held is log 28, and that FRAME_GAP_TIMEOUT changes nothing where no gap over 5 ms runs is logs 4 and 18. -/
def Obligations.StrapsAndReceiver : Prop :=
  (∀ (r1 r0 : Bool) (s : State), ∃ t, exec (.rateStrapChange r1 r0) s = .next t ∧ t = { s with rate1 := r1, rate0 := r0 } ∧
     (r1 = false → r0 = false → t.bitRate = 115200) ∧ (r1 = false → r0 = true → t.bitRate = 230400) ∧
     (r1 = true → r0 = false → t.bitRate = 460800) ∧ (r1 = true → r0 = true → t.bitRate = 921600)) ∧
  ∀ (s : State) (l : LinkId),
    ((s.link l).rx ≠ .hunt → 5 < (s.link l).gap → exec (.frameGapTimeout l) s = .next (s.received l)) ∧
    ((s.link l).rx = .hunt ∨ (s.link l).gap ≤ 5 → exec (.frameGapTimeout l) s = .next s) ∧
    exec (.crcMismatch l) s = .next (s.received l) ∧
    ∀ ch : Byte,
      (s.stage = .held ∨ (s.link l).lineLow = true → ∀ b, exec (.characterReceived l ch b) s = .next s) ∧
      (s.stage ≠ .held → (s.link l).lineLow = false →
        exec (.characterReceived l ch false) s = .next (s.received l) ∧
        ((s.link l).rx = .hunt → ch = 0xC3 →
          exec (.characterReceived l ch true) s = .next (s.setLink l { s.link l with rx := .length, gap := 0 })) ∧
        ((s.link l).rx = .hunt → ch ≠ 0xC3 → exec (.characterReceived l ch true) s = .next s) ∧
        ((s.link l).rx = .length → ch.toNat ≤ 196 → exec (.characterReceived l ch true) s =
          .next (s.setLink l { s.link l with rx := .body ch.toNat [], gap := 0 })) ∧
        ((s.link l).rx = .length → 196 < ch.toNat → exec (.characterReceived l ch true) s = .next (s.received l)) ∧
        (∀ len cs, (s.link l).rx = .body len cs → cs.length + 1 < len + 3 → exec (.characterReceived l ch true) s =
          .next (s.setLink l { s.link l with rx := .body len (cs ++ [ch]), gap := 0 })) ∧
        (∀ len kind p hi lo, (s.link l).rx = .body len (kind :: p ++ [hi]) → p.length = len → len ≤ 196 → ch = lo →
          (crc16 (BitVec.ofNat 8 len :: kind :: p) = hi ++ lo →
            exec (.characterReceived l ch true) s = exec (commandOf l kind p) s) ∧
          (crc16 (BitVec.ofNat 8 len :: kind :: p) ≠ hi ++ lo →
            exec (.characterReceived l ch true) s = .next (s.received l))))

/-- Until the start-up scan has ended every complete frame is discarded, and so is one on a line still low after a break;
nothing is sent (R144, R145, R17). A request taken while another is in service changes only its link's BUSY slot: with the
slot full it is discarded, else BUSY waits in the slot, or is on LTXn at once when the transmitter is free (R147). -/
def Obligations.FramesThatStartNoService : Prop :=
  (∀ (i : Instr) (s : State) (l : LinkId) (kind : Byte) (p : List Byte), i.frame? = some (l, kind, p) →
     s.stage ≠ .running ∨ (s.link l).lineLow = true → exec i s = .next (s.received l)) ∧
  ∀ (i : Instr) (s : State) (l : LinkId) (kind : Byte) (p : List Byte), i.frame? = some (l, kind, p) →
    s.stage = .running → (s.link l).lineLow = false → (s.link l).service.isSome = true →
    ((s.link l).busySlot.isSome = true → exec i s = .next (s.received l)) ∧
    ((s.link l).busySlot = none → (s.link l).tx.isSome = true →
      exec i s = .next (s.setLink l { s.link l with rx := .hunt, gap := 0, busySlot := some kind })) ∧
    ((s.link l).busySlot = none → (s.link l).tx = none →
      (∀ k r, (s.link l).service ≠ some { kind := k, progress := .ready r }) →
      exec i s = .next (s.setLink l
        { s.link l with
          rx := .hunt
          gap := 0
          tx := some { isBusy := true, chars := Response.frame { kind := kind, result := .busy, payload := [] } } }))

/-- TRANSMIT_COMPLETE: the end of a response ends the service of its request; the transmitter then begins the waiting
response, or else the waiting BUSY answer, whose slot empties (R146, R147). With nothing on LTXn no transmission ends
(log 18). -/
def Obligations.TransmitterServesItsQueue : Prop :=
  ∀ (s : State) (l : LinkId), ∃ x, exec (.transmitComplete l) s = .next (s.setLink l x) ∧
    ((s.link l).tx = none → x = s.link l) ∧
    (∀ cs, (s.link l).tx = some { isBusy := true, chars := cs } →
      (∀ k r, (s.link l).service = some { kind := k, progress := .ready r } →
        x = { s.link l with
              service := some { kind := k, progress := .sending }, tx := some { isBusy := false, chars := r.frame } }) ∧
      ((∀ k r, (s.link l).service ≠ some { kind := k, progress := .ready r }) →
        (∀ k, (s.link l).busySlot = some k →
          x = { s.link l with
                busySlot := none
                tx := some { isBusy := true, chars := Response.frame { kind := k, result := .busy, payload := [] } } }) ∧
        ((s.link l).busySlot = none → x = { s.link l with tx := none }))) ∧
    (∀ cs, (s.link l).tx = some { isBusy := false, chars := cs } →
      (∀ k, (s.link l).busySlot = some k →
        x = { s.link l with
              service := none
              busySlot := none
              tx := some { isBusy := true, chars := Response.frame { kind := k, result := .busy, payload := [] } } }) ∧
      ((s.link l).busySlot = none → x = { s.link l with service := none, tx := none }))

/-- LINK_BREAK ends the frame, the request in service, its response and the BUSY answer on its own link (R145), discards
its assembly or cancels its verification (R71, R78), and leaves an operation it claimed without a response (R12). It is
taken once while the line stays low; LINK_LINE_RETURNS_HIGH arms the line again. -/
def Obligations.LinkBreakEndsItsLink : Prop :=
  ∀ (s : State) (l : LinkId),
    exec (.linkLineReturnsHigh l) s = .next (s.setLink l { s.link l with lineLow := false }) ∧
    ((s.link l).lineLow = true → exec (.linkBreak l) s = .next s) ∧
    ((s.link l).lineLow = false → ∃ t, exec (.linkBreak l) s = .next t ∧
      t = { s with links := t.links, buffers := t.buffers, queue := t.queue, comparing := t.comparing,
                   planWaits := t.planWaits, engine := t.engine } ∧
      t.link l = { rx := .hunt, gap := 0, lineLow := true, service := none, busySlot := none, tx := none } ∧
      t.buffers[l] = .idle ∧ (∀ m : LinkId, m ≠ l → t.link m = s.link m ∧ t.buffers[m] = s.buffers[m]) ∧
      (s.engine = none → t.engine = none) ∧
      (∀ job c, s.engine = some { job := job, claimant := c } →
        (c = some l → t.engine = some { job := job, claimant := none }) ∧ (c ≠ some l → t.engine = s.engine)) ∧
      ((∀ v, s.buffers[l] ≠ .verifying v) →
        t.queue = s.queue ∧ t.comparing = s.comparing ∧ t.planWaits = s.planWaits) ∧
      (∀ v, s.buffers[l] = .verifying v →
        (∀ m : LinkId, t.planWaits.getLsbD m.val = (s.planWaits.getLsbD m.val && m != l)) ∧
        (s.comparing = some l →
          t.comparing = (s.queue.filter (· ≠ l)).head? ∧ t.queue = (s.queue.filter (· ≠ l)).tail) ∧
        (∀ m, m ≠ l → s.comparing = some m → t.comparing = s.comparing ∧ t.queue = s.queue.filter (· ≠ l))))

/-! ## The checks of a taken request -/

/-- The checks of R148 in their order: a KIND that is none of the 27 is refused with UNKNOWN (its answer's third character
for a KIND of 0x80 or more is free: log 7), then LENGTH, ROLE, PHASE and FROZEN; such a refusal carries no payload and
changes nothing but its link. -/
def Obligations.ChecksAnswerInTheirOrder : Prop :=
  ∀ (s : State) (l : LinkId) (p : List Byte), s.Attends l →
    (∀ kind : Byte, kindOf kind = none → exec (.unknown l kind p) s = .next (s.answered l kind .unknown [])) ∧
    ∀ (i : Instr) (k : ReqKind), i.request? = some (l, k, p) →
      (lengthOk k p = false → exec i s = .next (s.answered l (kindCode k) .length [])) ∧
      (lengthOk k p = true → roleMay s.plan[l] k p = false → exec i s = .next (s.answered l (kindCode k) .role [])) ∧
      (lengthOk k p = true → roleMay s.plan[l] k p = true → phaseAdmits s.line s.plan[l] k = false →
        exec i s = .next (s.answered l (kindCode k) .phase [])) ∧
      (lengthOk k p = true → roleMay s.plan[l] k p = true → phaseAdmits s.line s.plan[l] k = true → s.frozen = true →
        freezeRefuses k p = true → exec i s = .next (s.answered l (kindCode k) .frozen []))

/-- The kind codes of section 11.2, the field codes of section 11.3 and the places of the attention flags (R164). -/
def codesOfTheTables : Prop :=
  (∀ k : ReqKind, (k, kindCode k) ∈ [(ReqKind.ident, (0x01 : Byte)), (.statusRead, 0x02), (.slotRead, 0x03),
    (.manifestBegin, 0x10), (.manifestPart, 0x11), (.manifestEnd, 0x12), (.lineChange, 0x20), (.lineExtend, 0x21),
    (.lineAbandon, 0x22), (.serviceEnter, 0x23), (.serviceLeave, 0x24), (.lineRestart, 0x25), (.attentionClear, 0x26),
    (.formatOpen, 0x30), (.entryAdd, 0x31), (.entryDrop, 0x32), (.formatSet, 0x33), (.formatSeal, 0x34),
    (.formatDiscard, 0x35), (.formatRetire, 0x36), (.formatRead, 0x37), (.entryRead, 0x38), (.planWrite, 0x39),
    (.planRead, 0x3A), (.monitorSet, 0x40), (.monitorRead, 0x41), (.tripClear, 0x42)]) ∧
  (∀ (b : Byte) (k : ReqKind), kindOf b = some k ↔ kindCode k = b) ∧
  (FormatKind.production.code = 0 ∧ FormatKind.service.code = 1) ∧
  (FormatState.empty.code = 0 ∧ FormatState.opened.code = 1 ∧ FormatState.sealing.code = 2 ∧
    FormatState.sealed.code = 3) ∧
  (Presence.required.code = 0 ∧ Presence.optional.code = 1) ∧
  (∀ c : BlockClass, (c, c.code) ∈ [(BlockClass.matched, (1 : Byte)), (.inband, 2), (.offband, 3), (.altered, 4),
    (.absent, 5), (.unset, 6), (.missing, 7), (.extra, 8)]) ∧
  (∀ v : Verdict, (v, v.code) ∈ [(Verdict.none, (0 : Byte)), (.pending, 1), (.outside, 2), (.parked, 3), (.cleared, 4),
    (.trimmed, 5), (.stale, 6), (.lapsed, 7), (.refused, 8)]) ∧
  (Cause.order.code = 1 ∧ Cause.serviceReturn.code = 2) ∧
  (Role.unbound.code = 0 ∧ Role.engineering.code = 1 ∧ Role.supervisor.code = 2 ∧ ∀ k, (Role.controller k).code = 3) ∧
  (∀ r : Role, (∀ k : SlotId, r = .controller k → r.slotCode.toNat = k.val) ∧
    ((∀ k, r ≠ .controller k) → r.slotCode = 0xFF)) ∧
  (Action.note.code = 0 ∧ Action.freeze.code = 1 ∧ Action.drop.code = 2) ∧
  (∀ line : Line, (line = .noFormat → line.phaseCode = 0) ∧ (line = .run → line.phaseCode = 1) ∧
    (∀ c m, line = .changeover c m → line.phaseCode = 2) ∧ (∀ c, line = .stalled c → line.phaseCode = 3) ∧
    (∀ kept ret g, line = .service kept ret g → line.phaseCode = 4)) ∧
  ∀ f : Flag, (f, f.bit) ∈ [(Flag.commit, 0), (.stall, 1), (.abandon, 2), (.seal, 3), (.refuse, 4), (.stale, 5),
    (.lapse, 6), (.trip, 7), (.store, 8)]

/-- Fields are read and written most significant byte first, signed ones in two's complement (R164). -/
def fieldsMostSignificantFirst : Prop :=
  (∀ (p : List Byte) (i : Nat),
    (i < p.length → p[i]? = some (byteAt p i)) ∧
    (half p i).toNat = 256 * (byteAt p i).toNat + (byteAt p (i + 1)).toNat ∧
    (quad p i).toNat = 65536 * (half p i).toNat + (half p (i + 2)).toNat ∧
    (octet p i).toNat = 4294967296 * (quad p i).toNat + (quad p (i + 4)).toNat) ∧
  (∀ (x : Word16) (rest : List Byte), (bytes2 x).length = 2 ∧ half (bytes2 x ++ rest) 0 = x) ∧
  (∀ (n : Nat) (rest : List Byte), (num1 n).length = 1 ∧ (byteAt (num1 n ++ rest) 0).toNat = n % 256 ∧
    (num2 n).length = 2 ∧ (half (num2 n ++ rest) 0).toNat = n % 65536) ∧
  ∀ (z : Int) (rest : List Byte), (int4 z).length = 4 ∧
    (-2147483648 ≤ z → z ≤ 2147483647 → (quad (int4 z ++ rest) 0).toInt = z)

/-- The allowed lengths of section 11.2, a MANIFEST-PART's count of 1 to 16 matching its entries (R148 check 3, R63); the
role table of R149, the phase table of R150 and the freeze list of R151 and R134; the codes and the byte order of R164. -/
def Obligations.TablesOfRolePhaseAndFreeze : Prop :=
  (∀ (k : ReqKind) (p : List Byte), lengthOk k p = true ↔
    (k ∈ [.ident, .statusRead, .manifestEnd, .lineExtend, .lineAbandon, .serviceLeave, .lineRestart, .planRead,
      .monitorRead] ∧ p.length = 0) ∨
    (k ∈ [.lineChange, .formatSeal, .formatDiscard, .formatRetire, .formatRead] ∧ p.length = 1) ∨
    (k ∈ [.manifestBegin, .attentionClear, .formatOpen] ∧ p.length = 2) ∨
    (k ∈ [.slotRead, .serviceEnter] ∧ p.length = 3) ∨ (k ∈ [.entryDrop, .entryRead] ∧ p.length = 4) ∨
    (k = .tripClear ∧ p.length = 5) ∨ (k = .monitorSet ∧ p.length = 13) ∨
    (k ∈ [.entryAdd, .planWrite] ∧ p.length = 16) ∨ (k = .formatSet ∧ p.length = 17) ∨
    (k = .manifestPart ∧ ∃ n, 1 ≤ n ∧ n ≤ 16 ∧ (byteAt p 0).toNat = n ∧ p.length = 1 + 11 * n)) ∧
  codesOfTheTables ∧ fieldsMostSignificantFirst ∧
  (∀ (role : Role) (k : ReqKind) (p : List Byte), roleMay role k p = true ↔
    k = .ident ∨ (k = .statusRead ∧ role ≠ .unbound) ∨
    (k = .slotRead ∧ (role = .engineering ∨ role = .supervisor ∨
      ∃ own : SlotId, role = .controller own ∧ (byteAt p 0).toNat = own.val)) ∨
    (k ∈ [.manifestBegin, .manifestPart, .manifestEnd] ∧ ∃ own, role = .controller own) ∨
    (k ∈ [.lineChange, .lineExtend, .lineAbandon, .serviceEnter, .serviceLeave, .lineRestart, .attentionClear] ∧
      role = .supervisor) ∨
    (k ∈ [.formatOpen, .entryAdd, .entryDrop, .formatSet, .formatSeal, .formatDiscard, .formatRetire, .planWrite,
      .monitorSet, .tripClear] ∧ role = .engineering) ∨
    (k ∈ [.formatRead, .entryRead, .planRead, .monitorRead] ∧ (role = .engineering ∨ role = .supervisor))) ∧
  (∀ (line : Line) (role : Role) (k : ReqKind), phaseAdmits line role k = false ↔
    (k ∈ [.lineChange, .serviceEnter] ∧ line ≠ .noFormat ∧ line ≠ .run) ∨
    (k ∈ [.lineExtend, .lineAbandon] ∧ (∀ c m, line ≠ .changeover c m) ∧ ∀ c, line ≠ .stalled c) ∨
    (k = .serviceLeave ∧ ∀ kept ret g, line ≠ .service kept ret g) ∨
    (k = .manifestBegin ∧ (line = .noFormat ∨
      ∃ kept ret g, line = .service kept ret g ∧ ∀ own : SlotId, role = .controller own → kept.getLsbD own.val = false)) ∨
    (k = .planWrite ∧ line ≠ .noFormat)) ∧
  (∀ (k : ReqKind) (p : List Byte), freezeRefuses k p = true ↔
    (k = .lineChange ∧ byteAt p 0 ≠ 0) ∨
    k ∈ [.serviceEnter, .formatOpen, .entryAdd, .entryDrop, .formatSeal, .formatRetire, .planWrite]) ∧
  (∀ s : State, s.frozen = true ↔
    ∃ i : CounterNo, s.counters[i].enable = true ∧ s.counters[i].flag = true ∧ s.counters[i].action = .freeze)

/-- A taken request is refused and changes nothing but its link, or is answered with a code that does not refuse, or is
in service until its operation ends (R146, R148). The three kinds whose refusals may change more (R22, R63, R66) apart. -/
def Obligations.RefusedRequestsChangeNothing : Prop :=
  ∀ (i : Instr) (s : State) (l : LinkId) (k : ReqKind) (p : List Byte), s.Attends l → i.request? = some (l, k, p) →
    k ∉ [.manifestPart, .manifestEnd, .entryRead] → ∃ t, exec i s = .next t ∧
      ((∃ r, r.refuses = true ∧ t = s.answered l (kindCode k) r []) ∨
       (∃ r payload, r.refuses = false ∧ t.link l = (s.answered l (kindCode k) r payload).link l) ∨
       (k ∈ [.formatSeal, .formatRetire, .planWrite] ∧ t.link l = (s.serving l (kindCode k)).link l)) ∧
      ∀ m : LinkId, m ≠ l → t.link m = s.link m

/-! ## Reads -/

/-- IDENT, PLAN-READ and MONITOR-READ are answered at once with what their layouts hold, in every line phase and whatever
the freeze, and change no state (R139, R154, R155, sections 11.4 and 11.7). -/
def Obligations.IdentPlanReadMonitorReadAnswer : Prop :=
  ∀ (s : State) (l : LinkId), s.Attends l →
    (exec (.ident l []) s = .next (s.answered l 0x01 .done
      [0x47, 0x04, 0x16, 0x42, BitVec.ofNat 8 l.val, s.plan[l].code, s.plan[l].slotCode])) ∧
    (s.plan[l] = .engineering ∨ s.plan[l] = .supervisor → ∃ plan monitor : List Byte,
      exec (.planRead l []) s = .next (s.answered l 0x3A .done plan) ∧ plan.length = 17 ∧
      (∀ m : LinkId, byteAt plan (2 * m.val) = s.plan[m].code ∧ byteAt plan (2 * m.val + 1) = s.plan[m].slotCode) ∧
      (byteAt plan 16 = 1 ↔ s.planPending = true) ∧
      exec (.monitorRead l []) s = .next (s.answered l 0x41 .done monitor) ∧ monitor.length = 74 ∧
      (∀ i : CounterNo,
        (quad monitor (13 * i.val)).toNat = s.counters[i].value.toNat ∧
        (byteAt monitor (13 * i.val + 4) = 1 ↔ s.counters[i].flag = true) ∧
        (byteAt monitor (13 * i.val + 5) = 1 ↔ s.counters[i].enable = true) ∧
        (half monitor (13 * i.val + 6)).toNat = s.counters[i].events.toNat ∧
        (byteAt monitor (13 * i.val + 8)).toNat = s.counters[i].filter.toNat ∧
        byteAt monitor (13 * i.val + 9) = s.counters[i].threshold ∧
        (byteAt monitor (13 * i.val + 10) = 1 ↔ s.counters[i].invert = true) ∧
        (byteAt monitor (13 * i.val + 11) = 1 ↔ s.counters[i].edge = true) ∧
        byteAt monitor (13 * i.val + 12) = s.counters[i].action.code) ∧
      (byteAt monitor 52 = 1 ↔ s.frozen = true) ∧
      (∀ k : SlotId, (byteAt monitor 53).getLsbD k.val = s.held k) ∧
      ∀ i : Fin 5, quad monitor (54 + 4 * i.val) = s.residency[i])

/-- STATUS-READ on every bound link answers at once the 41 bytes of section 11.4, all of one moment, and changes no state
(R157). -/
def Obligations.StatusReadShowsTheLine : Prop :=
  ∀ (s : State) (l : LinkId), s.Attends l → s.plan[l] ≠ .unbound → ∃ b : List Byte,
    exec (.statusRead l []) s = .next (s.answered l 0x02 .done b) ∧ b.length = 41 ∧
    byteAt b 0 = s.line.phaseCode ∧ half b 1 = s.epoch ∧ (byteAt b 3).toNat = s.active.val ∧
    half b 4 = s.genOf s.active ∧
    (∀ c, s.line.changeover? = some c →
      (byteAt b 6).toNat = c.target.val ∧ half b 7 = c.targetGen ∧ byteAt b 9 = c.cause.code ∧
      (byteAt b 10).toNat = c.origin.val ∧ half b 11 = c.originGen ∧ (byteAt b 13).toNat = c.participants.toNat ∧
      (byteAt b 14).toNat = c.ready.toNat ∧ byteAt b 15 = BitVec.ofNat 8 c.extensions) ∧
    (∀ c m, s.line = .changeover c m → half b 16 = BitVec.ofNat 16 ((m + 999) / 1000)) ∧
    (∀ c, s.line = .stalled c → half b 16 = 0xFFFF) ∧
    (s.line.changeover? = none → ∀ j, j < 12 → byteAt b (6 + j) = 0) ∧
    (∀ kept ret g, s.line = .service kept ret g →
      (byteAt b 18).toNat = ret.val ∧ half b 19 = g ∧ (byteAt b 21).toNat = kept.toNat) ∧
    ((∀ kept ret g, s.line ≠ .service kept ret g) → ∀ j, j < 4 → byteAt b (18 + j) = 0) ∧
    (∀ k : SlotId, byteAt b (22 + k.val) = s.slots[k].verdict.code ∧
      (byteAt b 28).getLsbD k.val = s.slots[k].permit) ∧
    (byteAt b 29 = 1 ↔ s.frozen = true) ∧ (half b 30).toNat = s.attention.toNat ∧
    (∀ c, s.enroll = some c →
      (byteAt b 32).toNat = c.format.val ∧ (byteAt b 33).toNat = c.owner.val ∧
      half b 34 = BitVec.ofNat 16 (s.fmt c.format).entryCount ∧ byteAt b 36 = (s.fmt c.format).state.code) ∧
    (s.enroll = none → byteAt b 32 = 0 ∧ byteAt b 33 = 0xFF ∧ half b 34 = 0 ∧ byteAt b 36 = 0) ∧
    half b 37 = BitVec.ofNat 16 s.poolFree ∧ (byteAt b 39 = 1 ↔ s.engine.isSome = true) ∧
    (byteAt b 40 = 1 ↔ s.planPending = true)

/-- The 24 bytes of a verification summary (section 11.5). -/
def laidOut (x : Summary) : Prop :=
  x.bytes.length = 24 ∧ byteAt x.bytes 0 = x.verdict.code ∧ (byteAt x.bytes 1).toNat = x.format.val ∧
  half x.bytes 2 = x.generation ∧ half x.bytes 4 = BitVec.ofNat 16 x.counts.matched ∧
  half x.bytes 6 = BitVec.ofNat 16 x.counts.inband ∧ half x.bytes 8 = BitVec.ofNat 16 x.counts.offband ∧
  half x.bytes 10 = BitVec.ofNat 16 x.counts.altered ∧ half x.bytes 12 = BitVec.ofNat 16 x.counts.absent ∧
  half x.bytes 14 = BitVec.ofNat 16 x.counts.unset ∧ half x.bytes 16 = BitVec.ofNat 16 x.counts.missing ∧
  half x.bytes 18 = BitVec.ofNat 16 x.counts.extra ∧ half x.bytes 20 = x.firstBlock ∧
  (x.firstClass = none → byteAt x.bytes 22 = 0) ∧ (∀ c, x.firstClass = some c → byteAt x.bytes 22 = c.code) ∧
  byteAt x.bytes 23 = BitVec.ofNat 8 x.highest

/-- SLOT-READ answers a slot's tracker by section 11.7, with up to 32 class memory records from the starting block id on,
and changes no state; a slot above 5 is RANGE (R93). The summary it shows is laid out by section 11.5. -/
def Obligations.SlotReadShowsTheTracker : Prop :=
  ∀ (s : State) (l : LinkId) (p : List Byte), s.Attends l → p.length = 3 →
    (s.plan[l] = .engineering ∨ s.plan[l] = .supervisor → 5 < (byteAt p 0).toNat →
      exec (.slotRead l p) s = .next (s.answered l 0x03 .range [])) ∧
    ∀ k : SlotId, (s.plan[l] = .engineering ∨ s.plan[l] = .supervisor ∨ s.plan[l] = .controller k) →
      (byteAt p 0).toNat = k.val → ∃ b : List Byte,
      exec (.slotRead l p) s = .next (s.answered l 0x03 .done b) ∧
      byteAt b 0 = s.slots[k].verdict.code ∧ (byteAt b 1 = 1 ↔ s.slots[k].permit = true) ∧
      (byteAt b 2 = 1 ↔ s.slots[k].hold = true) ∧
      (s.slots[k].timer = none → byteAt b 3 = 0 ∧ byteAt b 4 = 0) ∧
      (∀ m, s.slots[k].timer = some m → byteAt b 3 = 1 ∧ byteAt b 4 = BitVec.ofNat 8 (max 1 ((m + 999) / 1000))) ∧
      (s.slots[k].summary = none → ∀ j, j < 25 → byteAt b (5 + j) = 0) ∧
      (∀ x, s.slots[k].summary = some x → byteAt b 5 = 1 ∧ (b.drop 6).take 24 = x.bytes ∧ laidOut x) ∧
      (s.slots[k].memory = none → b.length = 39 ∧ ∀ j, j < 9 → byteAt b (30 + j) = 0) ∧
      (∀ m, s.slots[k].memory = some m →
        byteAt b 30 = 1 ∧ (byteAt b 31).toNat = m.format.val ∧ half b 32 = m.generation ∧
        half b 34 = BitVec.ofNat 16 m.records.length ∧
        ∃ shown after : List (Word16 × BlockClass),
          m.records.filter (fun r => decide (half p 1 ≤ r.1)) = shown ++ after ∧
          shown.length ≤ 32 ∧ (after ≠ [] → shown.length = 32) ∧ (byteAt b 36).toNat = shown.length ∧
          half b 37 = (after.head?.map Prod.fst).getD 0 ∧ b.length = 39 + 3 * shown.length ∧
          ∀ (j : Nat) (r : Word16 × BlockClass), shown[j]? = some r →
            half b (39 + 3 * j) = r.1 ∧ byteAt b (41 + 3 * j) = r.2.code)

/-- FORMAT-READ answers the 47 bytes of section 11.6 for F0 to F31 and RANGE above (R36). ENTRY-READ answers the 38 bytes
of section 11.6 for an entry of the list, and RANGE for a bad number, slot or block id or where no such entry stands (R37).
The owner's read of its OPEN format restarts the idle timer, its entry found or not (R22), and nothing else changes. -/
def Obligations.FormatAndEntryReads : Prop :=
  (∀ (s : State) (l : LinkId) (p : List Byte), s.Attends l → (s.plan[l] = .engineering ∨ s.plan[l] = .supervisor) →
     p.length = 1 →
     (31 < (byteAt p 0).toNat → exec (.formatRead l p) s = .next (s.answered l 0x37 .range [])) ∧
     ∀ f : FormatNo, (byteAt p 0).toNat = f.val → ∃ (b : List Byte) (t : State),
       exec (.formatRead l p) s = .next t ∧ t = { s.answered l 0x37 .done b with enroll := t.enroll } ∧
       (∀ c, s.enroll = some c → c.format = f → c.owner = l → (s.fmt f).state = .opened →
         t.enroll = some { c with idle := some 120000 }) ∧
       ((¬ ∃ c, s.enroll = some c ∧ c.format = f ∧ c.owner = l ∧ (s.fmt f).state = .opened) → t.enroll = s.enroll) ∧
       ((s.fmt f).tag.length ≤ 12 →
         b.length = 47 ∧ byteAt b 0 = byteAt p 0 ∧ byteAt b 1 = (s.fmt f).kind.code ∧ byteAt b 2 = (s.fmt f).state.code ∧
         half b 3 = s.genOf f ∧ (byteAt b 5).toNat = (s.fmt f).tag.length ∧
         (∀ j, j < 12 → byteAt b (6 + j) = (s.fmt f).tag.getD j 0) ∧
         half b 18 = BitVec.ofNat 16 (s.fmt f).settle ∧ byteAt b 20 = BitVec.ofNat 8 (s.fmt f).interval ∧
         (∀ k : SlotId,
           ((byteAt b 21).getLsbD k.val = true ↔ (s.fmt f).lists[k] ≠ []) ∧
           half b (22 + 4 * k.val) = BitVec.ofNat 16 (s.fmt f).lists[k].length ∧
           half b (24 + 4 * k.val) = ((s.fmt f).lists[k].head?.map RefEntry.id).getD 0) ∧
         (∀ c, s.enroll = some c → c.format = f → (byteAt b 46).toNat = c.owner.val) ∧
         ((∀ c, s.enroll = some c → c.format ≠ f) → byteAt b 46 = 0xFF))) ∧
  ∀ (s : State) (l : LinkId) (p : List Byte), s.Attends l → (s.plan[l] = .engineering ∨ s.plan[l] = .supervisor) →
    p.length = 4 →
    (31 < (byteAt p 0).toNat ∨ 5 < (byteAt p 1).toNat ∨ half p 2 = 0 →
      exec (.entryRead l p) s = .next (s.answered l 0x38 .range [])) ∧
    ∀ (f : FormatNo) (k : SlotId), (byteAt p 0).toNat = f.val → (byteAt p 1).toNat = k.val → half p 2 ≠ 0 →
      ∃ (r : Result) (b : List Byte) (t : State),
      exec (.entryRead l p) s = .next t ∧ t = { s.answered l 0x38 r b with enroll := t.enroll } ∧
      (∀ c, s.enroll = some c → c.format = f → c.owner = l → (s.fmt f).state = .opened →
        t.enroll = some { c with idle := some 120000 }) ∧
      ((¬ ∃ c, s.enroll = some c ∧ c.format = f ∧ c.owner = l ∧ (s.fmt f).state = .opened) → t.enroll = s.enroll) ∧
      ((∀ e ∈ (s.fmt f).lists[k], e.id ≠ half p 2) → r = .range ∧ b = []) ∧
      (∀ before e after, (s.fmt f).lists[k] = before ++ e :: after → (∀ x ∈ before, x.id ≠ half p 2) →
        e.id = half p 2 →
          r = .done ∧ b.length = 38 ∧ byteAt b 1 = e.presence.code ∧
          half b 36 = (after.head?.map RefEntry.id).getD 0 ∧
          (∀ v, e.value = .fixed v → byteAt b 0 = 0 ∧ octet b 2 = v ∧ ∀ j, 10 ≤ j → j < 36 → byteAt b j = 0) ∧
          (∀ n blo bhi floor wlo whi lo hi, e.value = .tunable n blo bhi floor wlo whi lo hi →
            byteAt b 0 = 1 ∧ octet b 2 = 0 ∧ quad b 10 = BitVec.ofInt 32 n ∧ half b 14 = BitVec.ofNat 16 blo ∧
            half b 16 = BitVec.ofNat 16 bhi ∧ half b 18 = BitVec.ofNat 16 floor ∧ quad b 20 = BitVec.ofNat 32 wlo ∧
            quad b 24 = BitVec.ofNat 32 whi ∧ quad b 28 = BitVec.ofInt 32 lo ∧ quad b 32 = BitVec.ofInt 32 hi))

/-! ## Enrollment -/

/-- FORMAT-OPEN in the order of R23: RANGE, BUSY, STATE, or the number is OPEN with the fields of R23 and the context is
created with the idle timer at 120 s. -/
def Obligations.FormatOpenOpensAnEmptyFormat : Prop :=
  ∀ (s : State) (l : LinkId) (p : List Byte), s.Hears l .engineering → s.frozen = false → p.length = 2 →
    (byteAt p 0 = 0 ∨ 31 < (byteAt p 0).toNat ∨ 1 < (byteAt p 1).toNat →
      exec (.formatOpen l p) s = .next (s.answered l 0x30 .range [])) ∧
    ∀ (f : FormatNo) (kind : FormatKind), f ≠ 0 → (byteAt p 0).toNat = f.val → byteAt p 1 = kind.code →
      (s.enroll.isSome = true ∨ s.planPending = true →
        exec (.formatOpen l p) s = .next (s.answered l 0x30 .busy [])) ∧
      (s.enroll = none → s.planPending = false → (s.fmt f).state ≠ .empty →
        exec (.formatOpen l p) s = .next (s.answered l 0x30 .state [])) ∧
      (s.enroll = none → s.planPending = false → (s.fmt f).state = .empty →
        exec (.formatOpen l p) s = .next
          { s.answered l 0x30 .done (byteAt p 0 :: bytes2 (s.genOf f)) with
            formats := s.formats.set f { kind := kind, state := .opened, tag := [], settle := 60, interval := 30,
                                         lists := Vector.replicate 6 [] }
            enroll := some { format := f, owner := l, idle := some 120000 } })

/-- The five context requests meet the checks of R21 first, and the refusals of R30 while the format is SEALING. The three
that custody freeze refuses, ENTRY-ADD, ENTRY-DROP and FORMAT-SEAL (R151), are asked while there is none; FORMAT-SET and
FORMAT-DISCARD whatever the freeze (R38). -/
def Obligations.ContextChecksComeFirst : Prop :=
  ∀ (s : State) (l : LinkId) (k : ReqKind) (i : Instr) (p : List Byte), s.Hears l .engineering →
    (s.frozen = false ∨ k ∈ [.formatSet, .formatDiscard]) →
    k ∈ [.entryAdd, .entryDrop, .formatSet, .formatSeal, .formatDiscard] → i.request? = some (l, k, p) →
    lengthOk k p = true →
    (byteAt p 0 = 0 ∨ 31 < (byteAt p 0).toNat → exec i s = .next (s.answered l (kindCode k) .range [])) ∧
    ∀ f : FormatNo, f ≠ 0 → (byteAt p 0).toNat = f.val →
      ((∀ c, s.enroll = some c → c.format ≠ f ∨ c.owner ≠ l) →
        exec i s = .next (s.answered l (kindCode k) .state [])) ∧
      (∀ c, s.enroll = some c → c.format = f → c.owner = l → (s.fmt f).state = .sealing →
        (k ≠ .formatDiscard → exec i s = .next (s.answered l (kindCode k) .state [])) ∧
        (k = .formatDiscard → exec i s = .next (s.answered l (kindCode k) .busy [])))

/-- The owner `l` of the context asks for something on its format `f`, which is not SEALING (R20, R21). -/
def ownsOpen (s : State) (l : LinkId) (f : FormatNo) : Prop :=
  s.Hears l .engineering ∧ f ≠ 0 ∧ (s.fmt f).state ≠ .sealing ∧
    ∃ idle, s.enroll = some { format := f, owner := l, idle := idle }

/-- ENTRY-ADD accepted (R25, R26): the entry stands between those with lower and higher block ids, the free count falls by
one, the idle timer restarts. A TUNABLE entry's tolerances are clamped to 5000, and its widths and limits are those of R41
to R44, computed here from the sent fields; the answer is ADJUSTED when a tolerance was clamped. Then the refusals in the
order of R24: RANGE, ORDER, FULL; each changes nothing but its link. -/
def Obligations.EntryAddPlacesTheEntry : Prop :=
  (∀ (s : State) (l : LinkId) (p : List Byte) (f : FormatNo) (k : SlotId) (presence : Presence),
     ownsOpen s l f → s.frozen = false → p.length = 16 → (byteAt p 0).toNat = f.val → (byteAt p 1).toNat = k.val →
     half p 2 ≠ 0 → byteAt p 5 = presence.code → (∀ e ∈ (s.fmt f).lists[k], e.id ≠ half p 2) →
     (s.fmt f).lists[k].length < 256 → 0 < s.poolFree →
     ∀ (value : RefValue) (r : Result) (lo hi : Int),
       ((byteAt p 4 = 0 ∧ value = .fixed (octet p 6) ∧ r = .done ∧ lo = 0 ∧ hi = 0) ∨
        (byteAt p 4 = 1 ∧ ∃ (n : Int) (blo bhi floor wlo whi : Nat),
           n = (quad p 6).toInt ∧ blo = min 5000 (half p 10).toNat ∧ bhi = min 5000 (half p 12).toNat ∧
           floor = (half p 14).toNat ∧ wlo = max floor (n.natAbs * blo / 10000) ∧
           whi = max floor (n.natAbs * bhi / 10000) ∧
           lo = (if n - wlo < -2147483648 then -2147483648 else n - wlo) ∧
           hi = (if n + whi > 2147483647 then 2147483647 else n + whi) ∧
           value = .tunable n blo bhi floor wlo whi lo hi ∧
           r = (if 5000 < (half p 10).toNat ∨ 5000 < (half p 12).toNat then .adjusted else .done))) →
       ∃ before after : List RefEntry, (s.fmt f).lists[k] = before ++ after ∧ (∀ x ∈ before, x.id < half p 2) ∧
         (∀ x ∈ after.head?, half p 2 < x.id) ∧
         exec (.entryAdd l p) s = .next
           { s.answered l 0x31 r
               (int4 lo ++ int4 hi ++ num2 ((s.fmt f).lists[k].length + 1) ++ num2 (s.poolFree - 1)) with
             formats := s.formats.set f
               { s.fmt f with
                 lists := (s.fmt f).lists.set k
                   (before ++ { id := half p 2, presence := presence, value := value } :: after) }
             enroll := some { format := f, owner := l, idle := some 120000 }
             poolFree := s.poolFree - 1 }) ∧
  ∀ (s : State) (l : LinkId) (p : List Byte) (f : FormatNo), ownsOpen s l f → s.frozen = false → p.length = 16 →
    (byteAt p 0).toNat = f.val →
    (5 < (byteAt p 1).toNat ∨ half p 2 = 0 ∨ 1 < (byteAt p 4).toNat ∨ 1 < (byteAt p 5).toNat →
      exec (.entryAdd l p) s = .next (s.answered l 0x31 .range [])) ∧
    ∀ k : SlotId, (byteAt p 1).toNat = k.val → half p 2 ≠ 0 → (byteAt p 4).toNat ≤ 1 → (byteAt p 5).toNat ≤ 1 →
      ((∃ e ∈ (s.fmt f).lists[k], e.id = half p 2) → exec (.entryAdd l p) s = .next (s.answered l 0x31 .order [])) ∧
      ((∀ e ∈ (s.fmt f).lists[k], e.id ≠ half p 2) → 256 ≤ (s.fmt f).lists[k].length ∨ s.poolFree = 0 →
        exec (.entryAdd l p) s = .next (s.answered l 0x31 .full []))

/-- ENTRY-DROP (R27): the entry leaves the list and returns to the free list, the idle timer restarts; a bad slot, block
id 0 or an absent block id is RANGE. -/
def Obligations.EntryDropRemovesTheEntry : Prop :=
  ∀ (s : State) (l : LinkId) (p : List Byte) (f : FormatNo), ownsOpen s l f → s.frozen = false → p.length = 4 →
    (byteAt p 0).toNat = f.val →
    (5 < (byteAt p 1).toNat ∨ half p 2 = 0 → exec (.entryDrop l p) s = .next (s.answered l 0x32 .range [])) ∧
    ∀ k : SlotId, (byteAt p 1).toNat = k.val → half p 2 ≠ 0 →
      ((∀ e ∈ (s.fmt f).lists[k], e.id ≠ half p 2) → exec (.entryDrop l p) s = .next (s.answered l 0x32 .range [])) ∧
      (∀ before e after, (s.fmt f).lists[k] = before ++ e :: after → (∀ x ∈ before, x.id ≠ half p 2) →
        e.id = half p 2 → exec (.entryDrop l p) s = .next
          { s.answered l 0x32 .done (num2 (before.length + after.length) ++ num2 (s.poolFree + 1)) with
            formats := s.formats.set f { s.fmt f with lists := (s.fmt f).lists.set k (before ++ after) }
            enroll := some { format := f, owner := l, idle := some 120000 }
            poolFree := s.poolFree + 1 })

/-- FORMAT-SET (R28, R3): a tag too long or not printable is RANGE; otherwise the three fields are stored, the settle
window rounded up to a multiple of 5 and held within 5 to 600, an interval below 2 as 2, and the answer is ADJUSTED when a
stored value differs from the one sent. It is served whatever the freeze (R38). -/
def Obligations.FormatSetStoresTheFields : Prop :=
  ∀ (s : State) (l : LinkId) (p : List Byte) (f : FormatNo), ownsOpen s l f → p.length = 17 → (byteAt p 0).toNat = f.val →
    ((12 < (byteAt p 1).toNat ∨ ∃ j, j < (byteAt p 1).toNat ∧ j < 12 ∧
        ((byteAt p (2 + j)).toNat < 0x20 ∨ 0x7E < (byteAt p (2 + j)).toNat)) →
      exec (.formatSet l p) s = .next (s.answered l 0x33 .range [])) ∧
    ∀ (tag : List Byte) (sent settle interval : Nat), (byteAt p 1).toNat ≤ 12 → tag = (p.drop 2).take (byteAt p 1).toNat →
      (∀ b ∈ tag, 0x20 ≤ b.toNat ∧ b.toNat ≤ 0x7E) → sent = (half p 14).toNat →
      settle = (if sent ≤ 5 then 5 else if 600 ≤ sent then 600 else 5 * ((sent + 4) / 5)) →
      interval = (if (byteAt p 16).toNat < 2 then 2 else (byteAt p 16).toNat) →
      exec (.formatSet l p) s = .next
        { s.answered l 0x33 (if settle = sent ∧ interval = (byteAt p 16).toNat then .done else .adjusted)
            (byteAt p 1 :: tag ++ List.replicate (12 - tag.length) 0 ++ num2 settle ++ num1 interval) with
          formats := s.formats.set f { s.fmt f with tag := tag, settle := settle, interval := interval }
          enroll := some { format := f, owner := l, idle := some 120000 } }

/-- FORMAT-SEAL (R29): a format with no entry is STATE, a busy engine is BUSY; otherwise the record is SEALING, the idle
timer is suspended, the engine is claimed, and the request is answered at completion. -/
def Obligations.FormatSealClaimsTheEngine : Prop :=
  ∀ (s : State) (l : LinkId) (p : List Byte) (f : FormatNo), ownsOpen s l f → s.frozen = false → p.length = 1 →
    (byteAt p 0).toNat = f.val →
    ((∀ k : SlotId, (s.fmt f).lists[k] = []) → exec (.formatSeal l p) s = .next (s.answered l 0x34 .state [])) ∧
    ((∃ k : SlotId, (s.fmt f).lists[k] ≠ []) → s.engine.isSome = true →
      exec (.formatSeal l p) s = .next (s.answered l 0x34 .busy [])) ∧
    ((∃ k : SlotId, (s.fmt f).lists[k] ≠ []) → s.engine = none → exec (.formatSeal l p) s = .next
      { s.serving l 0x34 with
        formats := s.formats.set f { s.fmt f with state := .sealing }
        enroll := some { format := f, owner := l, idle := none }
        engine := some { job := .seal f, claimant := some l } })

/-- SEAL_COMPLETION (R13, R31, R32). With the seal mark written the format is SEALED under the next generation, the
context is closed, SEAL is set (STORE too when the table write failed) and the answer is DONE with the new generation;
otherwise the format is OPEN again, its idle timer at 120 s, STORE is set and the answer is STORE_FAULT. The answer is lost
with a broken link (R12). With no seal in flight nothing ends (log 18). The area whose write failed is log 9; that a good
check of the generation table stays good is log 10, and that a table write which fails leaves the table as it was is
log 31. -/
def Obligations.SealCompletionEndsTheSeal : Prop :=
  (∀ (o : SealOutcome) (s : State), (∀ f c, s.engine ≠ some { job := .seal f, claimant := c }) →
    exec (.sealCompletion o) s = .next s) ∧
  ∀ (s : State) (f : FormatNo) (c : Option LinkId) (g : Word16), f ≠ 0 →
    s.engine = some { job := .seal f, claimant := c } → s.AwaitsClaim c 0x34 →
    g = (if s.genOf f = 65535 then 1 else s.genOf f + 1) →
    (∀ o ∈ [SealOutcome.success, .tableFailed], ∃ t, exec (.sealCompletion o) s = .next t ∧
      t = { s.concluded c 0x34 .done (BitVec.ofNat 8 f.val :: bytes2 g) with
            formats := s.formats.set f { s.fmt f with state := .sealed }
            gens := s.gens.set f g
            enroll := none
            engine := none
            attention := s.attention ||| (if o = .success then 0x008 else 0x108)
            areas := s.areas.set f (.sealed
              { kind := (s.fmt f).kind, tag := (s.fmt f).tag, settle := (s.fmt f).settle,
                interval := (s.fmt f).interval, generation := g, lists := (s.fmt f).lists })
            genTable := if o = .success then s.genTable.set f g else s.genTable
            genTableGood := t.genTableGood
            freeIndex := t.freeIndex } ∧
      (s.genTableGood = true → t.genTableGood = true)) ∧
    ∀ o ∈ [SealOutcome.eraseFailed, .writeFailed, .markFailed], ∃ t, exec (.sealCompletion o) s = .next t ∧
      t = { s.concluded c 0x34 .storeFault [] with
            formats := s.formats.set f { s.fmt f with state := .opened }
            enroll := s.enroll.map (fun x => { x with idle := some 120000 })
            engine := none
            attention := s.attention ||| 0x100
            areas := t.areas } ∧
      ∀ h : FormatNo, h ≠ f → t.areas[h] = s.areas[h]

/-- What a discard leaves: the format EMPTY with its entries in the pool, its generation kept, no context (R2, R33). -/
def discarded (base s : State) (f : FormatNo) : State :=
  { base with
    formats := s.formats.set f { kind := .production, state := .empty, tag := [], settle := 60, interval := 30,
                                 lists := Vector.replicate 6 [] }
    poolFree := s.poolFree + (s.fmt f).entryCount
    enroll := none }

/-- FORMAT-DISCARD by the owner, frozen or not (R33, R38), and the expiry of an idle timer that has run out (R22) discard
the context's format. A timer that a request taken first has restarted has not run out (R22, log 4), and a suspended one,
or none, cannot (log 18): the command then changes nothing. -/
def Obligations.DiscardAndIdleExpiryFreeTheFormat : Prop :=
  (∀ (s : State) (l : LinkId) (p : List Byte) (f : FormatNo), ownsOpen s l f → p.length = 1 → (byteAt p 0).toNat = f.val →
    exec (.formatDiscard l p) s =
      .next (discarded (s.answered l 0x35 .done (num2 (s.poolFree + (s.fmt f).entryCount))) s f)) ∧
  (∀ (s : State) (f : FormatNo) (l : LinkId), f ≠ 0 →
    s.enroll = some { format := f, owner := l, idle := some 0 } → exec .idleTimerExpiry s = .next (discarded s s f)) ∧
  ∀ s : State, (∀ c, s.enroll = some c → c.idle ≠ some 0) → exec .idleTimerExpiry s = .next s

/-- FORMAT-RETIRE in the order of R34: RANGE, STATE for a number that is not SEALED or is pinned (R10, R109), BUSY, or the
number is EMPTY with its entries in the pool, the engine is claimed, and the request is answered at completion. From then on
the comparator reads empty lists of that number (R9): a queued verification has classed nothing, one under comparison what
its walk has come to (log 15), and what is left of the manifest is EXTRA (R52). -/
def Obligations.FormatRetireFreesAnUnpinnedFormat : Prop :=
  ∀ (s : State) (l : LinkId) (p : List Byte), s.Hears l .engineering → s.frozen = false → p.length = 1 →
    (byteAt p 0 = 0 ∨ 31 < (byteAt p 0).toNat → exec (.formatRetire l p) s = .next (s.answered l 0x36 .range [])) ∧
    ∀ f : FormatNo, f ≠ 0 → (byteAt p 0).toNat = f.val →
      ((s.fmt f).state ≠ .sealed → exec (.formatRetire l p) s = .next (s.answered l 0x36 .state [])) ∧
      ((s.fmt f).state = .sealed →
        (s.active = f ∨ (∃ c, s.line.changeover? = some c ∧ c.target = f) ∨ (∃ kept g, s.line = .service kept f g)) →
        exec (.formatRetire l p) s = .next (s.answered l 0x36 .state [])) ∧
      ((s.fmt f).state = .sealed → s.active ≠ f → (∀ c, s.line.changeover? = some c → c.target ≠ f) →
        (∀ kept g, s.line ≠ .service kept f g) →
        (s.engine.isSome = true → exec (.formatRetire l p) s = .next (s.answered l 0x36 .busy [])) ∧
        (s.engine = none → ∃ t, exec (.formatRetire l p) s = .next t ∧
          t = { s.serving l 0x36 with
                formats := s.formats.set f { kind := .production, state := .empty, tag := [], settle := 60,
                                             interval := 30, lists := Vector.replicate 6 [] }
                poolFree := s.poolFree + (s.fmt f).entryCount
                engine := some { job := .retireErase f, claimant := some l }
                buffers := t.buffers
                freeIndex := t.freeIndex } ∧
          (∀ m : LinkId,
            ((∀ v, s.buffers[m] = .verifying v → v.format ≠ f ∨ v.lost ≠ none) → t.buffers[m] = s.buffers[m]) ∧
            (∀ v, s.buffers[m] = .verifying v → v.format = f → v.lost = none →
              (s.comparing ≠ some m → t.buffers[m] = .verifying { v with lost := some ([], v.manifest) }) ∧
              (s.comparing = some m → ∃ n : Nat, t.buffers[m] =
                .verifying { v with lost := some (walk n (s.fmt f).lists[v.slot] v.manifest) }))) ∧
          ∀ (u : State) (v : Verification) (classed : List ClassRecord) (rest : List ManifestEntry),
            v.lost = some (classed, rest) →
            u.sequenceOf v = classed ++ rest.map (fun e => ClassRecord.mk e.id .extra none .manifestOnly)))

/-- RETIRE_ERASE_COMPLETION (R14, R35): DONE with the number when the retired mark was written, STORE_FAULT when it was
not; STORE is set by either failure; the storage is blank, carries the retired mark, or keeps the record. With no
retire-erase in flight nothing ends (log 18). -/
def Obligations.RetireEraseCompletionAnswers : Prop :=
  (∀ (o : RetireOutcome) (s : State), (∀ f c, s.engine ≠ some { job := .retireErase f, claimant := c }) →
    exec (.retireEraseCompletion o) s = .next s) ∧
  ∀ (s : State) (f : FormatNo) (c : Option LinkId), f ≠ 0 → s.engine = some { job := .retireErase f, claimant := c } →
    s.AwaitsClaim c 0x36 →
    exec (.retireEraseCompletion .success) s =
      .next { s.concluded c 0x36 .done [BitVec.ofNat 8 f.val] with engine := none, areas := s.areas.set f .blank } ∧
    exec (.retireEraseCompletion .eraseFailed) s =
      .next { s.concluded c 0x36 .done [BitVec.ofNat 8 f.val] with
              engine := none, areas := s.areas.set f .retired, attention := s.attention ||| 0x100 } ∧
    exec (.retireEraseCompletion .markFailed) s =
      .next { s.concluded c 0x36 .storeFault [] with engine := none, attention := s.attention ||| 0x100 }

/-! ## The line plan -/

/-- The plan of section 11.7 in a PLAN-WRITE payload: for each link a role byte and, for CONTROLLER, a slot byte. -/
def plans (p : List Byte) (plan : Plan) : Prop :=
  ∀ l : LinkId,
    (byteAt p (2 * l.val) = 0 ∧ plan[l] = .unbound) ∨ (byteAt p (2 * l.val) = 1 ∧ plan[l] = .engineering) ∨
    (byteAt p (2 * l.val) = 2 ∧ plan[l] = .supervisor) ∨
    ∃ k : SlotId, byteAt p (2 * l.val) = 3 ∧ (byteAt p (2 * l.val + 1)).toNat = k.val ∧ plan[l] = .controller k

/-- PLAN-WRITE in NOFORMAT in the order of R153: an undefined code or a plan beyond the limits of R16 is RANGE, a context
or a busy engine BUSY; otherwise the engine is claimed and the marker set (R12, R110), to be answered at completion. -/
def Obligations.PlanWriteClaimsTheEngine : Prop :=
  ∀ (s : State) (l : LinkId) (p : List Byte), s.Hears l .engineering → s.line = .noFormat → s.frozen = false →
    p.length = 16 →
    ((∀ plan, plans p plan → ¬ plan.Legal) → exec (.planWrite l p) s = .next (s.answered l 0x39 .range [])) ∧
    ∀ plan : Plan, plans p plan → plan.Legal →
      (s.enroll.isSome = true ∨ s.engine.isSome = true →
        exec (.planWrite l p) s = .next (s.answered l 0x39 .busy [])) ∧
      (s.enroll = none → s.engine = none → exec (.planWrite l p) s = .next
        { s.serving l 0x39 with engine := some { job := .planWrite plan, claimant := some l }, planWriting := true })

/-- PLAN_WRITE_COMPLETION (R15, R72, R110, R152). With the valid mark written all links take the new roles, a link whose
role or slot changed loses an OPEN assembly, and the marker waits for the verifications of such links only; otherwise every
role stays and the answer is STORE_FAULT. STORE is set by every failure. That the marker of an earlier plan write goes on
waiting is log 17; with no plan write in flight nothing ends (log 18). -/
def Obligations.PlanWriteCompletionBindsTheLinks : Prop :=
  (∀ (o : PlanOutcome) (s : State), (∀ plan c, s.engine ≠ some { job := .planWrite plan, claimant := c }) →
    exec (.planWriteCompletion o) s = .next s) ∧
  ∀ (s : State) (plan : Plan) (c : Option LinkId), s.engine = some { job := .planWrite plan, claimant := c } →
    s.AwaitsClaim c 0x39 →
    (∀ o ∈ [PlanOutcome.success, .oldEraseFailed], ∃ t, exec (.planWriteCompletion o) s = .next t ∧
      t = { s.concluded c 0x39 .done [] with
            plan := plan
            planCurrent := t.planCurrent
            planA := t.planA
            planB := t.planB
            buffers := t.buffers
            planWaits := t.planWaits
            planWriting := false
            engine := none
            attention := if o = .success then s.attention else s.attention ||| 0x100 } ∧
      (s.planCurrent = some .a → t.planCurrent = some .b) ∧ (s.planCurrent ≠ some .a → t.planCurrent = some .a) ∧
      (∃ turn, (t.planCurrent = some .a → t.planA = .valid plan turn ∧ (o = .success → t.planB = .blank)) ∧
        (t.planCurrent = some .b → t.planB = .valid plan turn ∧ (o = .success → t.planA = .blank)) ∧
        (s.planCurrent = none → turn = .one) ∧
        (∀ old was, (s.planCurrent = some .a ∧ s.planA = .valid old was) ∨
            (s.planCurrent = some .b ∧ s.planB = .valid old was) →
          (was = .one ∧ turn = .two) ∨ (was = .two ∧ turn = .three) ∨ (was = .three ∧ turn = .one))) ∧
      ∀ l : LinkId,
        (s.plan[l] ≠ plan[l] → (∃ d es, s.buffers[l] = .assembling d es) → t.buffers[l] = .idle) ∧
        (s.plan[l] = plan[l] ∨ (∀ d es, s.buffers[l] ≠ .assembling d es) → t.buffers[l] = s.buffers[l]) ∧
        (t.planWaits.getLsbD l.val = true ↔
          s.planWaits.getLsbD l.val = true ∨ (s.plan[l] ≠ plan[l] ∧ ∃ v, s.buffers[l] = .verifying v))) ∧
    ∀ o ∈ [PlanOutcome.eraseFailed, .writeFailed, .markFailed], ∃ t, exec (.planWriteCompletion o) s = .next t ∧
      t = { s.concluded c 0x39 .storeFault [] with
            planA := t.planA
            planB := t.planB
            planWriting := false
            engine := none
            attention := s.attention ||| 0x100 } ∧
      (s.planCurrent = some .a → t.planA = s.planA) ∧ (s.planCurrent ≠ some .a → t.planB = s.planB)

/-! ## Drift monitor -/

/-- An event counts for every counter that R128 to R131 select, under the freeze in force when it is taken; a wrap sets the
flag and attention TRIP; holds and permits follow; nothing else changes (R132 to R135). -/
def Obligations.EventsAreCounted : Prop :=
  ∀ (s : State) (e : MonitorEvent), s.Counted e (s.takeEvent e) ∧
    ∀ k : SlotId, ((s.takeEvent e).slots[k].permit = true ↔
      (s.line = .run ∨ ∃ kept ret g, s.line = .service kept ret g) ∧
      (s.slots[k].verdict = .cleared ∨ s.slots[k].verdict = .trimmed ∨ s.slots[k].verdict = .stale) ∧
      (s.takeEvent e).slots[k].hold = false)

/-- MONITOR-SET in the order of R137: RANGE for the counter, STATE for a set flag, RANGE for a value or member that does
not exist; otherwise all seven settings and the value are those sent, the flag is clear, and the answer repeats them with
the freeze. TRIP-CLEAR (R138): a counter above 3 or a value above 16,777,215 is RANGE; otherwise the flag is cleared, the
value is the one given, the settings stay, and freeze, holds and permits are derived anew. -/
def Obligations.MonitorSetAndTripClear : Prop :=
  (∀ (s : State) (l : LinkId) (p : List Byte), s.Hears l .engineering → p.length = 13 →
     (3 < (byteAt p 0).toNat → exec (.monitorSet l p) s = .next (s.answered l 0x40 .range [])) ∧
     ∀ i : CounterNo, (byteAt p 0).toNat = i.val →
       (s.counters[i].flag = true → exec (.monitorSet l p) s = .next (s.answered l 0x40 .state [])) ∧
       (s.counters[i].flag = false →
         (1 < (byteAt p 1).toNat ∨ 4095 < (half p 2).toNat ∨ 127 < (byteAt p 4).toNat ∨ 1 < (byteAt p 6).toNat ∨
           1 < (byteAt p 7).toNat ∨ 2 < (byteAt p 8).toNat ∨ 16777215 < (quad p 9).toNat) →
         exec (.monitorSet l p) s = .next (s.answered l 0x40 .range [])) ∧
       (s.counters[i].flag = false → (byteAt p 1).toNat ≤ 1 → (half p 2).toNat ≤ 4095 → (byteAt p 4).toNat ≤ 127 →
         (byteAt p 6).toNat ≤ 1 → (byteAt p 7).toNat ≤ 1 → (byteAt p 8).toNat ≤ 2 → (quad p 9).toNat ≤ 16777215 →
         ∃ c : Counter, exec (.monitorSet l p) s = .next
             { s.answered l 0x40 .done (p ++ [if s.frozen then 1 else 0]) with counters := s.counters.set i c } ∧
           c.flag = false ∧ c.value.toNat = (quad p 9).toNat ∧ (c.enable = true ↔ byteAt p 1 = 1) ∧
           c.events.toNat = (half p 2).toNat ∧ c.filter.toNat = (byteAt p 4).toNat ∧ c.threshold = byteAt p 5 ∧
           (c.invert = true ↔ byteAt p 6 = 1) ∧ (c.edge = true ↔ byteAt p 7 = 1) ∧ c.action.code = byteAt p 8)) ∧
  ∀ (s : State) (l : LinkId) (p : List Byte), s.Hears l .engineering → p.length = 5 →
    (3 < (byteAt p 0).toNat ∨ 16777215 < (quad p 1).toNat →
      exec (.tripClear l p) s = .next (s.answered l 0x42 .range [])) ∧
    ∀ i : CounterNo, (byteAt p 0).toNat = i.val → (quad p 1).toNat ≤ 16777215 → ∃ t, exec (.tripClear l p) s = .next t ∧
      t = { s.answered l 0x42 .done (p.drop 1 ++ [0, if t.frozen then 1 else 0]) with
            counters := t.counters, slots := t.slots } ∧
      (∃ value : BitVec 24, value.toNat = (quad p 1).toNat ∧
        t.counters = s.counters.set i { s.counters[i] with flag := false, value := value }) ∧
      s.SameCustody t ∧ t.PermitsFollow

/-- RESIDENCY_TICK adds one second to the counter of the line phase found, which stays at 4,294,967,295; the other
counters and all else stay (R140). -/
def Obligations.ResidencyTickCountsThePhase : Prop :=
  ∀ s : State, ∃ t, exec .residencyTick s = .next t ∧ t = { s with residency := t.residency } ∧
    ∀ i : Fin 5,
      ((s.line = .noFormat ∧ i = 0) ∨ (s.line = .run ∧ i = 1) ∨ ((∃ c m, s.line = .changeover c m) ∧ i = 2) ∨
          ((∃ c, s.line = .stalled c) ∧ i = 3) ∨ ((∃ kept ret g, s.line = .service kept ret g) ∧ i = 4) →
        t.residency[i] = (if s.residency[i] = 4294967295 then 4294967295 else s.residency[i] + 1)) ∧
      ((s.line = .noFormat → i ≠ 0) → (s.line = .run → i ≠ 1) → ((∃ c m, s.line = .changeover c m) → i ≠ 2) →
          ((∃ c, s.line = .stalled c) → i ≠ 3) → ((∃ kept ret g, s.line = .service kept ret g) → i ≠ 4) →
        t.residency[i] = s.residency[i])

/-- ATTENTION-CLEAR clears the named flags alone and answers those left; a flag that does not exist is RANGE. ATTN_N is
released exactly when none is left (R160, R159). -/
def Obligations.AttentionClearClearsTheNamed : Prop :=
  ∀ (s : State) (l : LinkId) (p : List Byte), s.Hears l .supervisor → p.length = 2 →
    (511 < (half p 0).toNat → exec (.attentionClear l p) s = .next (s.answered l 0x26 .range [])) ∧
    ((half p 0).toNat ≤ 511 → ∃ t left, exec (.attentionClear l p) s = .next t ∧
      t = { s.answered l 0x26 .done left with attention := t.attention } ∧ left.length = 2 ∧
      (half left 0).toNat = t.attention.toNat ∧
      (∀ f : Flag, t.flagged f = (s.flagged f && !(half p 0).getLsbD f.bit)) ∧
      (t.attnLow = false ↔ ∀ f : Flag, t.flagged f = false))

/-! ## Slot trackers -/

/-- PRESENTATION_TIMER_EXPIRY of a timer that has run out (R89): CLEARED or TRIMMED becomes STALE with the timer restarted
at the active format's interval, STALE becomes LAPSED with the timer stopped; the attention flag is set, the event is
counted, holds and permits follow (R90). A timer that a result taken first has restarted has not run out (R89, log 4), and
a stopped one cannot (log 18): the command then changes nothing. -/
def Obligations.PresentationTimerDegradesTheVerdict : Prop :=
  ∀ (s : State) (k : SlotId),
    (s.slots[k].timer ≠ some 0 → exec (.presentationTimerExpiry k) s = .next s) ∧
    (s.slots[k].timer = some 0 →
      (s.slots[k].verdict = .cleared ∨ s.slots[k].verdict = .trimmed → ∃ t, exec (.presentationTimerExpiry k) s = .next t ∧
        ({ s with
            slots := s.slots.set k
              { s.slots[k] with verdict := .stale, timer := some (1000 * (s.fmt s.active).interval) }
            attention := s.attention ||| 0x020 } : State).Counted (.stale k) t ∧ t.PermitsFollow) ∧
      (s.slots[k].verdict = .stale → ∃ t, exec (.presentationTimerExpiry k) s = .next t ∧
        ({ s with
            slots := s.slots.set k { s.slots[k] with verdict := .lapsed, timer := none }
            attention := s.attention ||| 0x040 } : State).Counted (.lapsed k) t ∧ t.PermitsFollow))

/-! ## Line phase controller -/

/-- The line set every tracker: verdicts as given, timers stopped, holds as before the monitor's, memory and summary kept,
and every permit low or as R90 gives it (R87). -/
def verdictsSet (s t : State) (f : SlotId → Verdict) : Prop :=
  (∀ k : SlotId, t.slots[k].verdict = f k ∧ t.slots[k].timer = none ∧ t.slots[k].memory = s.slots[k].memory ∧
    t.slots[k].summary = s.slots[k].summary ∧ t.slots[k].permit = false) ∧ t.PermitsFollow

/-- The context of a changeover to `f` that starts now (R99, R100, R123). -/
def contextTo (s : State) (f : FormatNo) (cause : Cause) (parts : SlotSet) : Changeover :=
  { target := f, targetGen := s.genOf f, origin := s.active, originGen := s.genOf s.active, cause := cause,
    participants := parts, ready := 0, extensions := 0 }

/-- LINE-CHANGE to a format other than F0, in the order of R97: RANGE, BUSY under the plan-pending marker, STATE; otherwise
the changeover starts (R99): context, settle timer, CHANGEOVER, the next epoch, participants PENDING and the rest OUTSIDE,
the active format staying the origin. LINE-CHANGE F0, frozen or not (R98): RUN goes to NOFORMAT with F0 active under the
next epoch, every verdict NONE; in NOFORMAT it changes nothing. -/
def Obligations.LineChangeStartsOrStandsDown : Prop :=
  (∀ (s : State) (l : LinkId) (p : List Byte), s.Hears l .supervisor → (s.line = .noFormat ∨ s.line = .run) →
     s.frozen = false → p.length = 1 →
     (31 < (byteAt p 0).toNat → exec (.lineChange l p) s = .next (s.answered l 0x20 .range [])) ∧
     ∀ f : FormatNo, f ≠ 0 → (byteAt p 0).toNat = f.val →
       (s.planPending = true → exec (.lineChange l p) s = .next (s.answered l 0x20 .busy [])) ∧
       (s.planPending = false → (s.fmt f).state ≠ .sealed ∨ (s.fmt f).kind = .service →
         exec (.lineChange l p) s = .next (s.answered l 0x20 .state [])) ∧
       (s.planPending = false → (s.fmt f).state = .sealed → (s.fmt f).kind = .production →
         ∀ parts : SlotSet, (∀ k : SlotId, parts.getLsbD k.val = true ↔ (s.fmt f).lists[k] ≠ []) →
         ∃ t, exec (.lineChange l p) s = .next t ∧
           t = { s.answered l 0x20 .done
                   ([2] ++ bytes2 (s.epoch + 1) ++ [byteAt p 0] ++ bytes2 (s.genOf f) ++ [parts.setWidth 8]
                     ++ num2 (s.fmt f).settle) with
                 line := .changeover (contextTo s f .order parts) (1000 * (s.fmt f).settle)
                 epoch := s.epoch + 1
                 slots := t.slots } ∧
           verdictsSet s t (fun k => if parts.getLsbD k.val then .pending else .outside))) ∧
  ∀ (s : State) (l : LinkId), s.Hears l .supervisor →
    (s.line = .noFormat → exec (.lineChange l [0]) s =
      .next (s.answered l 0x20 .done ([0] ++ bytes2 s.epoch ++ [0, 0, 0, 0, 0, 0]))) ∧
    (s.line = .run → ∃ t, exec (.lineChange l [0]) s = .next t ∧
      t = { s.answered l 0x20 .done ([0] ++ bytes2 (s.epoch + 1) ++ [0, 0, 0, 0, 0, 0]) with
            line := .noFormat, active := 0, epoch := s.epoch + 1, slots := t.slots } ∧
      verdictsSet s t (fun _ => .none))

/-- SETTLE_TIMER_EXPIRY of a settle timer that has run out (R102): the phase is STALLED with the context as it was, STALL is
set and its event is counted; the epoch and every verdict stay. A timer that an extension taken first has restarted has not
run out (log 4), and in another phase none runs (log 18): the command then changes nothing. LINE-EXTEND (R106), frozen or
not: RANGE after three extensions; otherwise the phase is CHANGEOVER, the settle timer restarts at the target's settle
window, one more extension is used, and nothing else changes; its answer is the three bytes of section 11.4 (log 30). -/
def Obligations.StallAndExtension : Prop :=
  (∀ s : State,
     (∀ c, s.line = .changeover c 0 → ∃ t, exec .settleTimerExpiry s = .next t ∧
       ({ s with line := .stalled c, attention := s.attention ||| 0x002 } : State).Counted .stall t ∧ t.PermitsFollow) ∧
     ((∀ c, s.line ≠ .changeover c 0) → exec .settleTimerExpiry s = .next s)) ∧
  ∀ (s : State) (l : LinkId) (c : Changeover), s.Hears l .supervisor → s.line.changeover? = some c →
    (3 ≤ c.extensions → exec (.lineExtend l []) s = .next (s.answered l 0x21 .range [])) ∧
    (c.extensions < 3 → exec (.lineExtend l []) s = .next
      { s.answered l 0x21 .done (num1 (c.extensions + 1) ++ num2 (s.fmt c.target).settle) with
        line := .changeover { c with extensions := c.extensions + 1 } (1000 * (s.fmt c.target).settle) })

/-- LINE-ABANDON (R107, R108), frozen or not: a changeover of cause ORDER goes back to RUN under its origin with the
origin's participants PENDING, or to NOFORMAT when the origin is F0 or the cause SERVICE_RETURN; the epoch advances,
ABANDON is set and its event is counted. -/
def Obligations.LineAbandonReturnsTheLine : Prop :=
  ∀ (s : State) (l : LinkId) (c : Changeover), s.Hears l .supervisor → s.line.changeover? = some c →
    ∃ (u t : State) (head : List Byte), exec (.lineAbandon l []) s = .next t ∧
      u = { s.answered l 0x22 .done (head ++ bytes2 (s.epoch + 1)) with
            line := u.line, active := u.active, epoch := s.epoch + 1, attention := s.attention ||| 0x004,
            slots := u.slots } ∧
      u.Counted .abandon t ∧ t.PermitsFollow ∧
      (c.cause = .order → c.origin ≠ 0 →
        u.line = .run ∧ u.active = c.origin ∧ head = [1, BitVec.ofNat 8 c.origin.val] ∧
        verdictsSet s u (fun k => if (s.fmt c.origin).lists[k] = [] then .outside else .pending)) ∧
      (c.cause = .serviceReturn ∨ c.origin = 0 →
        u.line = .noFormat ∧ u.active = 0 ∧ head = [0, 0] ∧ verdictsSet s u (fun _ => .none))

/-- SERVICE-ENTER in the order of R116, then R117: the service format is active in SERVICE under the next epoch, with the
kept set and the return format given, or the format active at entry; kept slots are PENDING, the others PARKED. -/
def Obligations.ServiceEnterParksTheRest : Prop :=
  ∀ (s : State) (l : LinkId) (p : List Byte), s.Hears l .supervisor → (s.line = .noFormat ∨ s.line = .run) →
    s.frozen = false → p.length = 3 →
    (byteAt p 0 = 0 ∨ 31 < (byteAt p 0).toNat ∨ byteAt p 1 = 0 ∨ 63 < (byteAt p 1).toNat ∨
        (byteAt p 2 ≠ 0xFF ∧ 31 < (byteAt p 2).toNat) →
      exec (.serviceEnter l p) s = .next (s.answered l 0x23 .range [])) ∧
    ∀ (f ret : FormatNo) (kept : SlotSet), f ≠ 0 → (byteAt p 0).toNat = f.val → kept ≠ 0 →
      (byteAt p 1).toNat = kept.toNat →
      ((byteAt p 2 = 0xFF ∧ ret = s.active) ∨ (byteAt p 2 ≠ 0xFF ∧ (byteAt p 2).toNat = ret.val)) →
      (s.planPending = true → exec (.serviceEnter l p) s = .next (s.answered l 0x23 .busy [])) ∧
      (s.planPending = false → (s.fmt f).state ≠ .sealed ∨ (s.fmt f).kind = .production →
        exec (.serviceEnter l p) s = .next (s.answered l 0x23 .state [])) ∧
      (s.planPending = false → (s.fmt f).state = .sealed → (s.fmt f).kind = .service →
        ((∃ k : SlotId, kept.getLsbD k.val = true ∧ (s.fmt f).lists[k] = []) →
          exec (.serviceEnter l p) s = .next (s.answered l 0x23 .range [])) ∧
        ((∀ k : SlotId, kept.getLsbD k.val = true → (s.fmt f).lists[k] ≠ []) →
          (byteAt p 2 ≠ 0xFF ∧ ret ≠ 0 ∧ ((s.fmt ret).state ≠ .sealed ∨ (s.fmt ret).kind = .service) →
            exec (.serviceEnter l p) s = .next (s.answered l 0x23 .state [])) ∧
          (byteAt p 2 = 0xFF ∨ ret = 0 ∨ ((s.fmt ret).state = .sealed ∧ (s.fmt ret).kind = .production) →
            ∃ t, exec (.serviceEnter l p) s = .next t ∧
              t = { s.answered l 0x23 .done
                      ([4] ++ bytes2 (s.epoch + 1) ++ [byteAt p 0] ++ bytes2 (s.genOf f) ++ num1 (s.fmt f).interval
                        ++ [byteAt p 1] ++ num1 ret.val ++ bytes2 (s.genOf ret)) with
                    line := .service kept ret (s.genOf ret)
                    active := f
                    epoch := s.epoch + 1
                    slots := t.slots } ∧
              verdictsSet s t (fun k => if kept.getLsbD k.val then .pending else .parked))))

/-- SERVICE-LEAVE (R122, R123), frozen or not: to NOFORMAT when the return format is F0, otherwise a changeover to the
return format of cause SERVICE_RETURN whose origin is the service format. -/
def Obligations.ServiceLeaveFollowsTheReturnFormat : Prop :=
  ∀ (s : State) (l : LinkId) (kept : SlotSet) (ret : FormatNo) (g : Word16), s.Hears l .supervisor →
    s.line = .service kept ret g →
    (ret = 0 → ∃ t, exec (.serviceLeave l []) s = .next t ∧
      t = { s.answered l 0x24 .done ([0] ++ bytes2 (s.epoch + 1) ++ [0, 0, 0, 0, 0, 0]) with
            line := .noFormat, active := 0, epoch := s.epoch + 1, slots := t.slots } ∧
      verdictsSet s t (fun _ => .none)) ∧
    (ret ≠ 0 → ∀ parts : SlotSet, (∀ k : SlotId, parts.getLsbD k.val = true ↔ (s.fmt ret).lists[k] ≠ []) →
      ∃ t, exec (.serviceLeave l []) s = .next t ∧
        t = { s.answered l 0x24 .done
                ([2] ++ bytes2 (s.epoch + 1) ++ num1 ret.val ++ bytes2 (s.genOf ret) ++ [parts.setWidth 8]
                  ++ num2 (s.fmt ret).settle) with
              line := .changeover (contextTo s ret .serviceReturn parts) (1000 * (s.fmt ret).settle)
              epoch := s.epoch + 1
              slots := t.slots } ∧
        verdictsSet s t (fun k => if parts.getLsbD k.val then .pending else .outside))

/-- LINE-RESTART in every phase, frozen or not (R111, R161): NOFORMAT with F0 active under the next epoch, every verdict
NONE with timers stopped and permits low, class memories and summaries emptied; all else stays, the marker included. -/
def Obligations.LineRestartEmptiesTheTrackers : Prop :=
  ∀ (s : State) (l : LinkId), s.Hears l .supervisor → ∃ t, exec (.lineRestart l []) s = .next t ∧
    t = { s.answered l 0x25 .done ([0, 0] ++ bytes2 (s.epoch + 1)) with
          line := .noFormat, active := 0, epoch := s.epoch + 1, slots := t.slots } ∧
    (∀ k : SlotId, t.slots[k].verdict = .none ∧ t.slots[k].timer = none ∧ t.slots[k].memory = none ∧
      t.slots[k].summary = none ∧ t.slots[k].permit = false) ∧ t.PermitsFollow

/-- Only the events of R96 move the epoch, by one, and only a reset clears it. -/
def Obligations.EpochMovesWithTheBasis : Prop :=
  ∀ (c : Instr) (s t : State), exec c s = .next t →
    t.epoch = s.epoch ∨
    (t.epoch = s.epoch + 1 ∧ (c = .comparisonEnd ∨ ∃ l p, c ∈ [Instr.lineChange l p, .lineAbandon l p, .serviceEnter l p,
      .serviceLeave l p, .lineRestart l p] ∨ ∃ ch, c = .characterReceived l ch true)) ∨
    (t.epoch = 0 ∧ ((∃ n fails, c = .powerOn n fails) ∨ ∃ n, c = .pinReset n))

/-! ## Manifests and verifications -/

/-- MANIFEST-BEGIN (R61, R62): a count of 0 or above 256 is RANGE and leaves the buffer; otherwise a new assembly starts,
and the one that was open is gone. -/
def Obligations.ManifestBeginOpensTheBuffer : Prop :=
  ∀ (s : State) (l : LinkId) (k : SlotId) (p : List Byte), s.Hears l (.controller k) → s.line ≠ .noFormat →
    (∀ kept ret g, s.line = .service kept ret g → kept.getLsbD k.val = true) → p.length = 2 →
    (half p 0 = 0 ∨ 256 < (half p 0).toNat → exec (.manifestBegin l p) s = .next (s.answered l 0x10 .range [])) ∧
    (half p 0 ≠ 0 → (half p 0).toNat ≤ 256 → exec (.manifestBegin l p) s = .next
      { s.answered l 0x10 .done (p ++ [BitVec.ofNat 8 k.val]) with
        buffers := s.buffers.set l (.assembling (half p 0).toNat []) })

/-- The 11 bytes of a manifest entry at offset `i` (section 11.5). -/
def entryLaidOut (p : List Byte) (i : Nat) : Prop :=
  (byteAt p (i + 2) = 1 → manifestEntryAt p i = some { id := half p i, report := .check (octet p (i + 3)) }) ∧
  (byteAt p (i + 2) = 2 → manifestEntryAt p i = some { id := half p i, report := .value (quad p (i + 7)).toInt }) ∧
  (byteAt p (i + 2) = 3 → manifestEntryAt p i = some { id := half p i, report := .unset }) ∧
  (byteAt p (i + 2) = 0 ∨ 3 < (byteAt p (i + 2)).toNat → manifestEntryAt p i = none)

/-- MANIFEST-PART (R63, R64, R65): with no open assembly STATE; more entries than declared RANGE; the first entry with a
bad kind or block id 0 RANGE, or out of ascending order ORDER, each with its position and the assembly discarded; otherwise
all entries are appended. The entries are read by the layout of section 11.5: block id, kind, and the check value, the
signed value or nothing. -/
def Obligations.ManifestPartIsTakenWhole : Prop :=
  (∀ (p : List Byte) (i : Nat), entryLaidOut p i) ∧
  ∀ (s : State) (l : LinkId) (k : SlotId) (p : List Byte) (n : Nat), s.Hears l (.controller k) → 1 ≤ n → n ≤ 16 →
    (byteAt p 0).toNat = n → p.length = 1 + 11 * n →
    ((∀ d es, s.buffers[l] ≠ .assembling d es) →
      exec (.manifestPart l p) s = .next (s.answered l 0x11 .state [0, 0, 0, 0, 0])) ∧
    ∀ (d : Nat) (es : List ManifestEntry), s.buffers[l] = .assembling d es →
      (d < es.length + n → exec (.manifestPart l p) s =
        .next { s.answered l 0x11 .range [0, 0, 0, 0, 0] with buffers := s.buffers.set l .idle }) ∧
      (es.length + n ≤ d → ∀ good : List ManifestEntry,
        (∀ j (e : ManifestEntry), good[j]? = some e → manifestEntryAt p (1 + 11 * j) = some e ∧ e.id ≠ 0) →
        (es ++ good).Pairwise (fun a b => a.id < b.id) →
        (good.length = n → exec (.manifestPart l p) s =
          .next { s.answered l 0x11 .done (num2 (es.length + n) ++ num2 d) with
                  buffers := s.buffers.set l (.assembling d (es ++ good)) }) ∧
        (good.length < n →
          (manifestEntryAt p (1 + 11 * good.length) = none → exec (.manifestPart l p) s =
            .next { s.answered l 0x11 .range (num1 (good.length + 1) ++ [0, 0, 0, 0]) with
                    buffers := s.buffers.set l .idle }) ∧
          ∀ e, manifestEntryAt p (1 + 11 * good.length) = some e →
            (e.id = 0 → exec (.manifestPart l p) s =
              .next { s.answered l 0x11 .range (num1 (good.length + 1) ++ [0, 0, 0, 0]) with
                      buffers := s.buffers.set l .idle }) ∧
            (e.id ≠ 0 → (∃ x, (es ++ good).getLast? = some x ∧ e.id ≤ x.id) → exec (.manifestPart l p) s =
              .next { s.answered l 0x11 .order (num1 (good.length + 1) ++ [0, 0, 0, 0]) with
                      buffers := s.buffers.set l .idle })))

/-- MANIFEST-END (R66 to R69): STATE with no open assembly; RANGE for a wrong count, PHASE in NOFORMAT or for a parked
slot, each with the counts and the assembly discarded; OUTSIDE at once for a slot that is no participant of the
verification format; otherwise the verification, with format, generation and epoch of this moment, joins the queue's tail,
or is compared at once by an idle comparator (R76). -/
def Obligations.ManifestEndHandsOver : Prop :=
  ∀ (s : State) (l : LinkId) (k : SlotId), s.Hears l (.controller k) →
    ((∀ d es, s.buffers[l] ≠ .assembling d es) → exec (.manifestEnd l []) s = .next (s.answered l 0x12 .state [])) ∧
    ∀ (d : Nat) (es : List ManifestEntry), s.buffers[l] = .assembling d es →
      (es.length ≠ d → exec (.manifestEnd l []) s =
        .next { s.answered l 0x12 .range (num2 es.length ++ num2 d) with buffers := s.buffers.set l .idle }) ∧
      (es.length = d →
        (s.line = .noFormat ∨ (∃ kept ret g, s.line = .service kept ret g ∧ kept.getLsbD k.val = false) →
          exec (.manifestEnd l []) s =
            .next { s.answered l 0x12 .phase (num2 es.length ++ num2 d) with buffers := s.buffers.set l .idle }) ∧
        ∀ f : FormatNo,
          ((s.line = .run ∧ f = s.active) ∨ (∃ c, s.line.changeover? = some c ∧ f = c.target) ∨
            (∃ kept ret g, s.line = .service kept ret g ∧ kept.getLsbD k.val = true ∧ f = s.active)) →
          ((s.fmt f).lists[k] = [] → exec (.manifestEnd l []) s =
            .next { s.answered l 0x12 .done
                      ([2, BitVec.ofNat 8 f.val] ++ bytes2 (s.genOf f) ++ List.replicate 20 0) with
                    buffers := s.buffers.set l .idle }) ∧
          ((s.fmt f).lists[k] ≠ [] → ∀ v : Verification,
            v = { slot := k, manifest := es, format := f, generation := s.genOf f, epoch := s.epoch, lost := none } →
            (s.comparing = none → s.queue = [] → exec (.manifestEnd l []) s =
              .next { s.serving l 0x12 with buffers := s.buffers.set l (.verifying v), comparing := some l }) ∧
            (∀ m, s.comparing = some m → exec (.manifestEnd l []) s =
              .next { s.serving l 0x12 with
                      buffers := s.buffers.set l (.verifying v), queue := s.queue ++ [l] })))

/-- The class and score of a block of both lists (R49, with the score of R46 and R47), of the reference list alone, and of
the manifest alone: EXTRA whatever it reports (R50). -/
def Obligations.ClassesOfABlock : Prop :=
  ∀ r : RefEntry,
    (∀ v, r.value = .fixed v →
      (∀ w, (w = v → classifyBoth r (.check w) = (.matched, some 0)) ∧
        (w ≠ v → classifyBoth r (.check w) = (.altered, none))) ∧
      (∀ z, classifyBoth r (.value z) = (.altered, none)) ∧ classifyBoth r .unset = (.altered, none)) ∧
    (∀ n blo bhi floor wlo whi lo hi, r.value = .tunable n blo bhi floor wlo whi lo hi → r.value.bandSound →
      classifyBoth r (.value n) = (.matched, some 0) ∧
      (∀ z, n < z → z ≤ hi → ∃ score, classifyBoth r (.value z) = (.inband, some score) ∧
        score ≤ 100 ∧ (score : Int) * whi ≤ 100 * (z - n) ∧ 100 * (z - n) < (score + 1) * whi) ∧
      (∀ z, lo ≤ z → z < n → ∃ score, classifyBoth r (.value z) = (.inband, some score) ∧
        score ≤ 100 ∧ (score : Int) * wlo ≤ 100 * (n - z) ∧ 100 * (n - z) < (score + 1) * wlo) ∧
      (∀ z, z < lo ∨ hi < z → classifyBoth r (.value z) = (.offband, some 255)) ∧
      (r.presence = .optional → classifyBoth r .unset = (.absent, none)) ∧
      (r.presence = .required → classifyBoth r .unset = (.unset, none)) ∧
      ∀ w, classifyBoth r (.check w) = (.altered, none)) ∧
    (r.presence = .optional → classifyRefOnly r = .absent ∧ mergeWalk [r] [] = [ClassRecord.mk r.id .absent none .refOnly]) ∧
    (r.presence = .required → classifyRefOnly r = .missing ∧ mergeWalk [r] [] = [ClassRecord.mk r.id .missing none .refOnly]) ∧
    ∀ m : ManifestEntry, mergeWalk [] [m] = [ClassRecord.mk m.id .extra none .manifestOnly]

/-- The merge walk of two ascending lists (R51, R53): one class record for each block id of either list, in ascending block
id without duplicates, classed from both lists, from the reference list alone or from the manifest alone. -/
def Obligations.MergeWalkExaminesEveryBlockOnce : Prop :=
  ∀ (rs : List RefEntry) (ms : List ManifestEntry), rs.Pairwise (fun a b => a.id < b.id) →
    ms.Pairwise (fun a b => a.id < b.id) →
    (mergeWalk rs ms).Pairwise (fun a b => a.id < b.id) ∧
    (∀ id, (∃ x ∈ mergeWalk rs ms, x.id = id) ↔ (∃ r ∈ rs, r.id = id) ∨ ∃ m ∈ ms, m.id = id) ∧
    (∀ r ∈ rs, ∀ m ∈ ms, r.id = m.id →
      ClassRecord.mk r.id (classifyBoth r m.report).1 (classifyBoth r m.report).2 .both ∈ mergeWalk rs ms) ∧
    (∀ r ∈ rs, (∀ m ∈ ms, m.id ≠ r.id) →
      ClassRecord.mk r.id (classifyRefOnly r) none .refOnly ∈ mergeWalk rs ms) ∧
    ∀ m ∈ ms, (∀ r ∈ rs, r.id ≠ m.id) →
      ClassRecord.mk m.id .extra none .manifestOnly ∈ mergeWalk rs ms

/-- The summary of a class sequence in ascending block id (R54 to R57): the counts, the lowest refusing block, the highest
INBAND score, and the verdict. -/
def Obligations.SummaryOfASequence : Prop :=
  ∀ (v : Verification) (seq : List ClassRecord), seq.Pairwise (fun a b => a.id < b.id) →
    (summaryOf v seq).format = v.format ∧ (summaryOf v seq).generation = v.generation ∧
    (summaryOf v seq).counts =
      { matched := (seq.map ClassRecord.cls).count .matched, inband := (seq.map ClassRecord.cls).count .inband,
        offband := (seq.map ClassRecord.cls).count .offband, altered := (seq.map ClassRecord.cls).count .altered,
        absent := (seq.map ClassRecord.cls).count .absent, unset := (seq.map ClassRecord.cls).count .unset,
        missing := (seq.map ClassRecord.cls).count .missing, extra := (seq.map ClassRecord.cls).count .extra } ∧
    ((∀ x ∈ seq, x.cls ∉ [.offband, .altered, .unset, .missing, .extra]) →
      (summaryOf v seq).firstBlock = 0 ∧ (summaryOf v seq).firstClass = none ∧
      (summaryOf v seq).verdict = (if ∃ x ∈ seq, x.cls = .inband then .trimmed else .cleared)) ∧
    (∀ x ∈ seq, x.cls ∈ [BlockClass.offband, .altered, .unset, .missing, .extra] →
      (∀ y ∈ seq, y.cls ∈ [BlockClass.offband, .altered, .unset, .missing, .extra] → x.id ≤ y.id) →
      (summaryOf v seq).firstBlock = x.id ∧ (summaryOf v seq).firstClass = some x.cls ∧
      (summaryOf v seq).verdict = .refused) ∧
    (∀ x ∈ seq, x.cls = .inband → x.score.getD 0 ≤ (summaryOf v seq).highest) ∧
    ((summaryOf v seq).highest = 0 ∨ ∃ x ∈ seq, x.cls = .inband ∧ x.score = some (summaryOf v seq).highest)

/-- The class sequence of a verification whose format stands: the merge walk of its slot's list in the verification format
with its manifest (R51, R76). That of a retired format is in FormatRetireFreesAnUnpinnedFormat. -/
def walked (s : State) (v : Verification) : Prop :=
  v.lost = none → s.sequenceOf v = mergeWalk (s.fmt v.format).lists[v.slot] v.manifest

/-- The comparison of link `l` ends and the next one begins: its buffer is IDLE, the oldest waiting verification is under
comparison, the marker waits no more for the link (R76, R77, R110). -/
def comparatorMovedOn (s t : State) (l : LinkId) : Prop :=
  t.buffers = s.buffers.set l .idle ∧ t.comparing = s.queue.head? ∧ t.queue = s.queue.tail ∧
    ∀ m : LinkId, t.planWaits.getLsbD m.val = (s.planWaits.getLsbD m.val && m != l)

/-- The events of one application are those of R84, in its order: a block event for each class other than MATCH, with the
prior class of a memory of the same format and generation, then VERDICT_REFUSED with the prior verdict. -/
def eventsOf (old : Slot) (v : Verification) (seq : List ClassRecord) (es : List MonitorEvent) : Prop :=
  ∃ blocks last, es = blocks ++ last ∧
    blocks = (seq.filter (fun x => decide (x.cls ≠ .matched))).map (fun x =>
      .block v.slot x.id x.cls x.score
        (match old.memory with
         | some m =>
           if m.format = v.format ∧ m.generation = v.generation then (m.records.find? (fun r => r.1 == x.id)).map Prod.snd
           else none
         | none => none)) ∧
    ((summaryOf v seq).verdict = .refused → last = [.verdictRefused v.slot old.verdict]) ∧
    ((summaryOf v seq).verdict ≠ .refused → last = [])

/-- What every applied result leaves, whatever the line does with it (R83, R84, R86, R92). TRIP is set exactly when one of
its events wraps a counter (R132), REFUSE as R86 says, and every other flag but COMMIT stays (R158). -/
def resultApplied (s t : State) (l : LinkId) (v : Verification) (seq : List ClassRecord) : Prop :=
  (∃ es, eventsOf s.slots[v.slot] v seq es ∧ t.counters = (s.takeEvents es).counters ∧
    (t.flagged .trip = true ↔ s.flagged .trip = true ∨
      ∃ (before after : List MonitorEvent) (e : MonitorEvent) (i : CounterNo), es = before ++ e :: after ∧
        e.CountsFor (s.takeEvents before) i ∧ (s.takeEvents before).counters[i].value = 0xFFFFFF)) ∧
  (∀ fl : Flag, fl ∉ [.refuse, .trip, .commit] → t.flagged fl = s.flagged fl) ∧
  t.slots[v.slot].verdict = (summaryOf v seq).verdict ∧ t.slots[v.slot].summary = some (summaryOf v seq) ∧
  t.slots[v.slot].memory =
    some { format := v.format, generation := v.generation, records := seq.map (fun x => (x.id, x.cls)) } ∧
  (∀ k : SlotId, k ≠ v.slot → t.slots[k].memory = s.slots[k].memory ∧ t.slots[k].summary = s.slots[k].summary) ∧
  (t.flagged .refuse = true ↔
    s.flagged .refuse = true ∨ ((summaryOf v seq).verdict = .refused ∧ s.slots[v.slot].verdict ≠ .refused)) ∧
  comparatorMovedOn s t l ∧ t.PermitsFollow ∧
  t = { s.completed l 0x12 .done (summaryOf v seq).bytes with
        buffers := t.buffers, comparing := t.comparing, queue := t.queue, planWaits := t.planWaits,
        counters := t.counters, slots := t.slots, attention := t.attention, line := t.line, active := t.active,
        epoch := t.epoch }

/-- COMPARISON_END (R77, R82, R92). Under another epoch than the recorded one the answer is SUPERSEDED with the walk's
summary, and no tracker, counter, flag or line state changes. Under the recorded epoch in RUN or SERVICE the result is
applied, the presentation timer restarts at the active format's interval on a releasing verdict and stops on REFUSED, and
the line stays (R83, R85, R88). The result is that of the merge walk of the slot's list with the manifest (R51, R76), and the
answer is laid out by section 11.5. With no comparison in progress none ends (log 18). -/
def Obligations.ResultsCountUnderTheirEpoch : Prop :=
  ((∀ s : State, s.comparing = none → exec .comparisonEnd s = .next s) ∧
   ∀ (s : State) (l : LinkId) (v : Verification), s.comparing = some l → s.buffers[l] = .verifying v → s.Awaits l 0x12 →
     v.epoch ≠ s.epoch → ∃ t, exec .comparisonEnd s = .next t ∧
       t = { s.completed l 0x12 .superseded (summaryOf v (s.sequenceOf v)).bytes with
             buffers := t.buffers, comparing := t.comparing, queue := t.queue, planWaits := t.planWaits } ∧
       comparatorMovedOn s t l ∧ walked s v ∧ laidOut (summaryOf v (s.sequenceOf v))) ∧
  ∀ (s : State) (l : LinkId) (v : Verification), s.comparing = some l → s.buffers[l] = .verifying v → s.Awaits l 0x12 →
    v.epoch = s.epoch → (s.line = .run ∨ ∃ kept ret g, s.line = .service kept ret g) →
    ∃ t, exec .comparisonEnd s = .next t ∧ resultApplied s t l v (s.sequenceOf v) ∧ walked s v ∧
      laidOut (summaryOf v (s.sequenceOf v)) ∧
      t.line = s.line ∧ t.active = s.active ∧ t.epoch = s.epoch ∧ t.flagged .commit = s.flagged .commit ∧
      t.slots[v.slot].timer =
        (if (summaryOf v (s.sequenceOf v)).verdict = .refused then none
         else some (1000 * (s.fmt s.active).interval)) ∧
      ∀ k : SlotId, k ≠ v.slot → t.slots[k].verdict = s.slots[k].verdict ∧ t.slots[k].timer = s.slots[k].timer

/-- COMPARISON_END under the recorded epoch in CHANGEOVER or STALLED: the result is applied and reported (R85, R103). When
the ready set then equals the participants the changeover commits (R104, R105): the target is active in RUN under the next
epoch, COMMIT is set, participants start their timers and the others are OUTSIDE; otherwise only the ready set changes. The result is that of the
merge walk of the slot's list with the manifest (R51, R76). -/
def Obligations.CompleteReadySetCommits : Prop :=
  ∀ (s : State) (l : LinkId) (v : Verification) (c : Changeover), s.comparing = some l → s.buffers[l] = .verifying v →
    s.Awaits l 0x12 → v.epoch = s.epoch → s.line.changeover? = some c → c.participants.getLsbD v.slot.val = true →
    ∃ t, exec .comparisonEnd s = .next t ∧ resultApplied s t l v (s.sequenceOf v) ∧ walked s v ∧
      laidOut (summaryOf v (s.sequenceOf v)) ∧
      ∀ ready : SlotSet,
        (∀ k : SlotId, ready.getLsbD k.val =
          (if k = v.slot then decide ((summaryOf v (s.sequenceOf v)).verdict ≠ .refused) else c.ready.getLsbD k.val)) →
        (ready = c.participants →
          t.line = .run ∧ t.active = c.target ∧ t.epoch = s.epoch + 1 ∧ t.flagged .commit = true ∧
          ∀ k : SlotId,
            (c.participants.getLsbD k.val = true →
              t.slots[k].timer = some (1000 * (s.fmt c.target).interval) ∧
              (k ≠ v.slot → t.slots[k].verdict = s.slots[k].verdict)) ∧
            (c.participants.getLsbD k.val = false → t.slots[k].verdict = .outside ∧ t.slots[k].timer = none)) ∧
        (ready ≠ c.participants →
          t.active = s.active ∧ t.epoch = s.epoch ∧ t.flagged .commit = s.flagged .commit ∧
          (∀ m, s.line = .changeover c m → t.line = .changeover { c with ready := ready } m) ∧
          (s.line = .stalled c → t.line = .stalled { c with ready := ready }) ∧
          ∀ k : SlotId, t.slots[k].timer = s.slots[k].timer ∧ (k ≠ v.slot → t.slots[k].verdict = s.slots[k].verdict))

/-! ## Invariants that every step keeps -/

/-- The initial state of the model meets every invariant stated below. -/
def Obligations.InvariantsHoldAtReset : Prop :=
  State.reset.PoolConserved ∧ State.reset.ContextSound ∧ State.reset.StoreListsSound ∧ State.reset.SealedHold ∧
    State.reset.RolesSound ∧ State.reset.PermitsFollow ∧ State.reset.ReadySound ∧ State.reset.TimersSound ∧
    State.reset.TripsEnabled ∧ State.reset.LinksSound ∧ State.reset.ManifestsSound ∧ State.reset.FieldsSound ∧
    State.reset.PlansSound

/-- The free entries and those of all formats always number 2048 (R8), and the context's format is the only one OPEN or
SEALING (R2, R20). -/
def Obligations.EntriesAreConserved : Prop :=
  ∀ s t : State, s.PoolConserved → s.ContextSound → step s = .next t → t.PoolConserved ∧ t.ContextSound

/-- Every reference list is in strictly ascending block id with at most 256 entries, every TUNABLE entry has lo ≤ N ≤ hi
within the signed 32-bit range (R6, R44), and every SEALED format keeps at least one non-empty list, in the table and in
storage (R6). Tag, settle window and presentation interval of every record and every stored record stay within the ranges of
R1 and R3. -/
def Obligations.ListsStaySoundAndInBand : Prop :=
  (∀ s t : State, s.StoreListsSound → step s = .next t → t.StoreListsSound) ∧
  (∀ s t : State, s.ContextSound → s.SealedHold → step s = .next t → t.SealedHold) ∧
  ∀ s t : State, s.FieldsSound → step s = .next t → t.FieldsSound

/-- The formats in the roles of the line stay SEALED and of the right kind, F0 is active in NOFORMAT, and no changeover
uses more than three extensions (R10, R95, R106, R109). Once the scan has ended the line plan in force is within the limits
of R16, and so is every plan being written (R153). -/
def Obligations.RolesStayWithSealedFormats : Prop :=
  (∀ s t : State, s.ContextSound → s.RolesSound → step s = .next t → t.RolesSound) ∧
  ∀ s t : State, s.PlansSound → step s = .next t → t.PlansSound

/-- A permit is high only while the phase is RUN or SERVICE, the verdict releases and no tripped DROP counter covers the
slot, and is high when all three hold (R90, R135); and a counter whose flag is set is always enabled (R126). -/
def Obligations.PermitsFollowCustody : Prop :=
  (∀ s t : State, s.PermitsFollow → step s = .next t → t.PermitsFollow) ∧
  ∀ s t : State, s.TripsEnabled → step s = .next t → t.TripsEnabled

/-- Every ready slot is a participant with a CLEARED or TRIMMED verdict (R103), and a presentation timer runs only in RUN
and SERVICE under a releasing verdict (R88). -/
def Obligations.ReadinessAndTimersStaySound : Prop :=
  ∀ s t : State, s.ReadySound → s.TimersSound → step s = .next t → t.ReadySound ∧ t.TimersSound

/-- Each link's transmitter, BUSY slot and request in service agree (R146, R147), the engine's claimant awaits its
response (R12), the buffers hold ascending manifests within their counts (R59, R65), and the comparator holds each
VERIFYING buffer once (R69, R75, R76). -/
def Obligations.LinksAndComparatorStaySound : Prop :=
  ∀ s t : State, s.LinksSound → s.ManifestsSound → step s = .next t → t.LinksSound ∧ t.ManifestsSound

/-- A format number changes state only by the events of R2: its own request accepted, the idle expiry, the end of its seal,
or a reset with its scan. -/
def Obligations.FormatStatesFollowTheTable : Prop :=
  ∀ (c : Instr) (s t : State) (f : FormatNo), s.ContextSound → exec c s = .next t → f ≠ 0 →
    (∀ n fails, c ≠ .powerOn n fails) → (∀ n, c ≠ .pinReset n) → (∀ fails, c ≠ .pinResetRelease fails) →
    (∀ l ch, c ≠ .characterReceived l ch true) →
    (t.fmt f).state = (s.fmt f).state ∨
    ((s.fmt f).state = .empty ∧ (t.fmt f).state = .opened ∧ ∃ l p, c = .formatOpen l p ∧ (byteAt p 0).toNat = f.val) ∨
    ((s.fmt f).state = .opened ∧ (t.fmt f).state = .sealing ∧ ∃ l p, c = .formatSeal l p ∧ (byteAt p 0).toNat = f.val) ∨
    ((s.fmt f).state = .opened ∧ (t.fmt f).state = .empty ∧
      (c = .idleTimerExpiry ∨ ∃ l p, c = .formatDiscard l p ∧ (byteAt p 0).toNat = f.val)) ∨
    ((s.fmt f).state = .sealing ∧ ((t.fmt f).state = .sealed ∨ (t.fmt f).state = .opened) ∧
      ∃ o, c = .sealCompletion o) ∨
    ((s.fmt f).state = .sealed ∧ (t.fmt f).state = .empty ∧
      ∃ l p, c = .formatRetire l p ∧ (byteAt p 0).toNat = f.val)
end

