-- ==== Sys2Proof/Laws/State.lean ====
section
/-! SUPPORT. One lemma per field per update of State: what each named update leaves as it was, and what the accessors
read after it. -/

namespace Sys2Proof.Machine

variable (s : State)

/-! ## setLink -/

@[simp] theorem State.setLink_pending (l : LinkId) (x : Link) : (s.setLink l x).pending = s.pending := rfl
@[simp] theorem State.setLink_stage (l : LinkId) (x : Link) : (s.setLink l x).stage = s.stage := rfl
@[simp] theorem State.setLink_rate1 (l : LinkId) (x : Link) : (s.setLink l x).rate1 = s.rate1 := rfl
@[simp] theorem State.setLink_rate0 (l : LinkId) (x : Link) : (s.setLink l x).rate0 = s.rate0 := rfl
@[simp] theorem State.setLink_plan (l : LinkId) (x : Link) : (s.setLink l x).plan = s.plan := rfl
@[simp] theorem State.setLink_formats (l : LinkId) (x : Link) : (s.setLink l x).formats = s.formats := rfl
@[simp] theorem State.setLink_gens (l : LinkId) (x : Link) : (s.setLink l x).gens = s.gens := rfl
@[simp] theorem State.setLink_poolFree (l : LinkId) (x : Link) : (s.setLink l x).poolFree = s.poolFree := rfl
@[simp] theorem State.setLink_engine (l : LinkId) (x : Link) : (s.setLink l x).engine = s.engine := rfl
@[simp] theorem State.setLink_genTable (l : LinkId) (x : Link) : (s.setLink l x).genTable = s.genTable := rfl
@[simp] theorem State.setLink_genTableGood (l : LinkId) (x : Link) :
    (s.setLink l x).genTableGood = s.genTableGood := rfl
@[simp] theorem State.setLink_areas (l : LinkId) (x : Link) : (s.setLink l x).areas = s.areas := rfl
@[simp] theorem State.setLink_planA (l : LinkId) (x : Link) : (s.setLink l x).planA = s.planA := rfl
@[simp] theorem State.setLink_planB (l : LinkId) (x : Link) : (s.setLink l x).planB = s.planB := rfl
@[simp] theorem State.setLink_planCurrent (l : LinkId) (x : Link) : (s.setLink l x).planCurrent = s.planCurrent := rfl
@[simp] theorem State.setLink_enroll (l : LinkId) (x : Link) : (s.setLink l x).enroll = s.enroll := rfl
@[simp] theorem State.setLink_buffers (l : LinkId) (x : Link) : (s.setLink l x).buffers = s.buffers := rfl
@[simp] theorem State.setLink_queue (l : LinkId) (x : Link) : (s.setLink l x).queue = s.queue := rfl
@[simp] theorem State.setLink_comparing (l : LinkId) (x : Link) : (s.setLink l x).comparing = s.comparing := rfl
@[simp] theorem State.setLink_slots (l : LinkId) (x : Link) : (s.setLink l x).slots = s.slots := rfl
@[simp] theorem State.setLink_line (l : LinkId) (x : Link) : (s.setLink l x).line = s.line := rfl
@[simp] theorem State.setLink_active (l : LinkId) (x : Link) : (s.setLink l x).active = s.active := rfl
@[simp] theorem State.setLink_epoch (l : LinkId) (x : Link) : (s.setLink l x).epoch = s.epoch := rfl
@[simp] theorem State.setLink_planWriting (l : LinkId) (x : Link) : (s.setLink l x).planWriting = s.planWriting := rfl
@[simp] theorem State.setLink_planWaits (l : LinkId) (x : Link) : (s.setLink l x).planWaits = s.planWaits := rfl
@[simp] theorem State.setLink_counters (l : LinkId) (x : Link) : (s.setLink l x).counters = s.counters := rfl
@[simp] theorem State.setLink_residency (l : LinkId) (x : Link) : (s.setLink l x).residency = s.residency := rfl
@[simp] theorem State.setLink_timebase (l : LinkId) (x : Link) : (s.setLink l x).timebase = s.timebase := rfl
@[simp] theorem State.setLink_attention (l : LinkId) (x : Link) : (s.setLink l x).attention = s.attention := rfl
@[simp] theorem State.setLink_freeIndex (l : LinkId) (x : Link) : (s.setLink l x).freeIndex = s.freeIndex := rfl

/-! ## setBuffer -/

@[simp] theorem State.setBuffer_pending (l : LinkId) (b : Buffer) : (s.setBuffer l b).pending = s.pending := rfl
@[simp] theorem State.setBuffer_stage (l : LinkId) (b : Buffer) : (s.setBuffer l b).stage = s.stage := rfl
@[simp] theorem State.setBuffer_rate1 (l : LinkId) (b : Buffer) : (s.setBuffer l b).rate1 = s.rate1 := rfl
@[simp] theorem State.setBuffer_rate0 (l : LinkId) (b : Buffer) : (s.setBuffer l b).rate0 = s.rate0 := rfl
@[simp] theorem State.setBuffer_links (l : LinkId) (b : Buffer) : (s.setBuffer l b).links = s.links := rfl
@[simp] theorem State.setBuffer_plan (l : LinkId) (b : Buffer) : (s.setBuffer l b).plan = s.plan := rfl
@[simp] theorem State.setBuffer_formats (l : LinkId) (b : Buffer) : (s.setBuffer l b).formats = s.formats := rfl
@[simp] theorem State.setBuffer_gens (l : LinkId) (b : Buffer) : (s.setBuffer l b).gens = s.gens := rfl
@[simp] theorem State.setBuffer_poolFree (l : LinkId) (b : Buffer) : (s.setBuffer l b).poolFree = s.poolFree := rfl
@[simp] theorem State.setBuffer_engine (l : LinkId) (b : Buffer) : (s.setBuffer l b).engine = s.engine := rfl
@[simp] theorem State.setBuffer_genTable (l : LinkId) (b : Buffer) : (s.setBuffer l b).genTable = s.genTable := rfl
@[simp] theorem State.setBuffer_genTableGood (l : LinkId) (b : Buffer) :
    (s.setBuffer l b).genTableGood = s.genTableGood := rfl
@[simp] theorem State.setBuffer_areas (l : LinkId) (b : Buffer) : (s.setBuffer l b).areas = s.areas := rfl
@[simp] theorem State.setBuffer_planA (l : LinkId) (b : Buffer) : (s.setBuffer l b).planA = s.planA := rfl
@[simp] theorem State.setBuffer_planB (l : LinkId) (b : Buffer) : (s.setBuffer l b).planB = s.planB := rfl
@[simp] theorem State.setBuffer_planCurrent (l : LinkId) (b : Buffer) :
    (s.setBuffer l b).planCurrent = s.planCurrent := rfl
@[simp] theorem State.setBuffer_enroll (l : LinkId) (b : Buffer) : (s.setBuffer l b).enroll = s.enroll := rfl
@[simp] theorem State.setBuffer_queue (l : LinkId) (b : Buffer) : (s.setBuffer l b).queue = s.queue := rfl
@[simp] theorem State.setBuffer_comparing (l : LinkId) (b : Buffer) : (s.setBuffer l b).comparing = s.comparing := rfl
@[simp] theorem State.setBuffer_slots (l : LinkId) (b : Buffer) : (s.setBuffer l b).slots = s.slots := rfl
@[simp] theorem State.setBuffer_line (l : LinkId) (b : Buffer) : (s.setBuffer l b).line = s.line := rfl
@[simp] theorem State.setBuffer_active (l : LinkId) (b : Buffer) : (s.setBuffer l b).active = s.active := rfl
@[simp] theorem State.setBuffer_epoch (l : LinkId) (b : Buffer) : (s.setBuffer l b).epoch = s.epoch := rfl
@[simp] theorem State.setBuffer_planWriting (l : LinkId) (b : Buffer) :
    (s.setBuffer l b).planWriting = s.planWriting := rfl
@[simp] theorem State.setBuffer_planWaits (l : LinkId) (b : Buffer) : (s.setBuffer l b).planWaits = s.planWaits := rfl
@[simp] theorem State.setBuffer_counters (l : LinkId) (b : Buffer) : (s.setBuffer l b).counters = s.counters := rfl
@[simp] theorem State.setBuffer_residency (l : LinkId) (b : Buffer) : (s.setBuffer l b).residency = s.residency := rfl
@[simp] theorem State.setBuffer_timebase (l : LinkId) (b : Buffer) : (s.setBuffer l b).timebase = s.timebase := rfl
@[simp] theorem State.setBuffer_attention (l : LinkId) (b : Buffer) : (s.setBuffer l b).attention = s.attention := rfl
@[simp] theorem State.setBuffer_freeIndex (l : LinkId) (b : Buffer) : (s.setBuffer l b).freeIndex = s.freeIndex := rfl

/-! ## setSlot -/

@[simp] theorem State.setSlot_pending (k : SlotId) (x : Slot) : (s.setSlot k x).pending = s.pending := rfl
@[simp] theorem State.setSlot_stage (k : SlotId) (x : Slot) : (s.setSlot k x).stage = s.stage := rfl
@[simp] theorem State.setSlot_rate1 (k : SlotId) (x : Slot) : (s.setSlot k x).rate1 = s.rate1 := rfl
@[simp] theorem State.setSlot_rate0 (k : SlotId) (x : Slot) : (s.setSlot k x).rate0 = s.rate0 := rfl
@[simp] theorem State.setSlot_links (k : SlotId) (x : Slot) : (s.setSlot k x).links = s.links := rfl
@[simp] theorem State.setSlot_plan (k : SlotId) (x : Slot) : (s.setSlot k x).plan = s.plan := rfl
@[simp] theorem State.setSlot_formats (k : SlotId) (x : Slot) : (s.setSlot k x).formats = s.formats := rfl
@[simp] theorem State.setSlot_gens (k : SlotId) (x : Slot) : (s.setSlot k x).gens = s.gens := rfl
@[simp] theorem State.setSlot_poolFree (k : SlotId) (x : Slot) : (s.setSlot k x).poolFree = s.poolFree := rfl
@[simp] theorem State.setSlot_engine (k : SlotId) (x : Slot) : (s.setSlot k x).engine = s.engine := rfl
@[simp] theorem State.setSlot_genTable (k : SlotId) (x : Slot) : (s.setSlot k x).genTable = s.genTable := rfl
@[simp] theorem State.setSlot_genTableGood (k : SlotId) (x : Slot) :
    (s.setSlot k x).genTableGood = s.genTableGood := rfl
@[simp] theorem State.setSlot_areas (k : SlotId) (x : Slot) : (s.setSlot k x).areas = s.areas := rfl
@[simp] theorem State.setSlot_planA (k : SlotId) (x : Slot) : (s.setSlot k x).planA = s.planA := rfl
@[simp] theorem State.setSlot_planB (k : SlotId) (x : Slot) : (s.setSlot k x).planB = s.planB := rfl
@[simp] theorem State.setSlot_planCurrent (k : SlotId) (x : Slot) : (s.setSlot k x).planCurrent = s.planCurrent := rfl
@[simp] theorem State.setSlot_enroll (k : SlotId) (x : Slot) : (s.setSlot k x).enroll = s.enroll := rfl
@[simp] theorem State.setSlot_buffers (k : SlotId) (x : Slot) : (s.setSlot k x).buffers = s.buffers := rfl
@[simp] theorem State.setSlot_queue (k : SlotId) (x : Slot) : (s.setSlot k x).queue = s.queue := rfl
@[simp] theorem State.setSlot_comparing (k : SlotId) (x : Slot) : (s.setSlot k x).comparing = s.comparing := rfl
@[simp] theorem State.setSlot_line (k : SlotId) (x : Slot) : (s.setSlot k x).line = s.line := rfl
@[simp] theorem State.setSlot_active (k : SlotId) (x : Slot) : (s.setSlot k x).active = s.active := rfl
@[simp] theorem State.setSlot_epoch (k : SlotId) (x : Slot) : (s.setSlot k x).epoch = s.epoch := rfl
@[simp] theorem State.setSlot_planWriting (k : SlotId) (x : Slot) : (s.setSlot k x).planWriting = s.planWriting := rfl
@[simp] theorem State.setSlot_planWaits (k : SlotId) (x : Slot) : (s.setSlot k x).planWaits = s.planWaits := rfl
@[simp] theorem State.setSlot_counters (k : SlotId) (x : Slot) : (s.setSlot k x).counters = s.counters := rfl
@[simp] theorem State.setSlot_residency (k : SlotId) (x : Slot) : (s.setSlot k x).residency = s.residency := rfl
@[simp] theorem State.setSlot_timebase (k : SlotId) (x : Slot) : (s.setSlot k x).timebase = s.timebase := rfl
@[simp] theorem State.setSlot_attention (k : SlotId) (x : Slot) : (s.setSlot k x).attention = s.attention := rfl
@[simp] theorem State.setSlot_freeIndex (k : SlotId) (x : Slot) : (s.setSlot k x).freeIndex = s.freeIndex := rfl

/-! ## setFmt -/

@[simp] theorem State.setFmt_pending (n : FormatNo) (r : FormatRecord) :
    (s.setFmt n r).pending = s.pending := by unfold State.setFmt; split <;> rfl
@[simp] theorem State.setFmt_stage (n : FormatNo) (r : FormatRecord) :
    (s.setFmt n r).stage = s.stage := by unfold State.setFmt; split <;> rfl
@[simp] theorem State.setFmt_rate1 (n : FormatNo) (r : FormatRecord) :
    (s.setFmt n r).rate1 = s.rate1 := by unfold State.setFmt; split <;> rfl
@[simp] theorem State.setFmt_rate0 (n : FormatNo) (r : FormatRecord) :
    (s.setFmt n r).rate0 = s.rate0 := by unfold State.setFmt; split <;> rfl
@[simp] theorem State.setFmt_links (n : FormatNo) (r : FormatRecord) :
    (s.setFmt n r).links = s.links := by unfold State.setFmt; split <;> rfl
@[simp] theorem State.setFmt_plan (n : FormatNo) (r : FormatRecord) :
    (s.setFmt n r).plan = s.plan := by unfold State.setFmt; split <;> rfl
@[simp] theorem State.setFmt_gens (n : FormatNo) (r : FormatRecord) :
    (s.setFmt n r).gens = s.gens := by unfold State.setFmt; split <;> rfl
@[simp] theorem State.setFmt_poolFree (n : FormatNo) (r : FormatRecord) :
    (s.setFmt n r).poolFree = s.poolFree := by unfold State.setFmt; split <;> rfl
@[simp] theorem State.setFmt_engine (n : FormatNo) (r : FormatRecord) :
    (s.setFmt n r).engine = s.engine := by unfold State.setFmt; split <;> rfl
@[simp] theorem State.setFmt_genTable (n : FormatNo) (r : FormatRecord) :
    (s.setFmt n r).genTable = s.genTable := by unfold State.setFmt; split <;> rfl
@[simp] theorem State.setFmt_genTableGood (n : FormatNo) (r : FormatRecord) :
    (s.setFmt n r).genTableGood = s.genTableGood := by unfold State.setFmt; split <;> rfl
@[simp] theorem State.setFmt_areas (n : FormatNo) (r : FormatRecord) :
    (s.setFmt n r).areas = s.areas := by unfold State.setFmt; split <;> rfl
@[simp] theorem State.setFmt_planA (n : FormatNo) (r : FormatRecord) :
    (s.setFmt n r).planA = s.planA := by unfold State.setFmt; split <;> rfl
@[simp] theorem State.setFmt_planB (n : FormatNo) (r : FormatRecord) :
    (s.setFmt n r).planB = s.planB := by unfold State.setFmt; split <;> rfl
@[simp] theorem State.setFmt_planCurrent (n : FormatNo) (r : FormatRecord) :
    (s.setFmt n r).planCurrent = s.planCurrent := by unfold State.setFmt; split <;> rfl
@[simp] theorem State.setFmt_enroll (n : FormatNo) (r : FormatRecord) :
    (s.setFmt n r).enroll = s.enroll := by unfold State.setFmt; split <;> rfl
@[simp] theorem State.setFmt_buffers (n : FormatNo) (r : FormatRecord) :
    (s.setFmt n r).buffers = s.buffers := by unfold State.setFmt; split <;> rfl
@[simp] theorem State.setFmt_queue (n : FormatNo) (r : FormatRecord) :
    (s.setFmt n r).queue = s.queue := by unfold State.setFmt; split <;> rfl
@[simp] theorem State.setFmt_comparing (n : FormatNo) (r : FormatRecord) :
    (s.setFmt n r).comparing = s.comparing := by unfold State.setFmt; split <;> rfl
@[simp] theorem State.setFmt_slots (n : FormatNo) (r : FormatRecord) :
    (s.setFmt n r).slots = s.slots := by unfold State.setFmt; split <;> rfl
@[simp] theorem State.setFmt_line (n : FormatNo) (r : FormatRecord) :
    (s.setFmt n r).line = s.line := by unfold State.setFmt; split <;> rfl
@[simp] theorem State.setFmt_active (n : FormatNo) (r : FormatRecord) :
    (s.setFmt n r).active = s.active := by unfold State.setFmt; split <;> rfl
@[simp] theorem State.setFmt_epoch (n : FormatNo) (r : FormatRecord) :
    (s.setFmt n r).epoch = s.epoch := by unfold State.setFmt; split <;> rfl
@[simp] theorem State.setFmt_planWriting (n : FormatNo) (r : FormatRecord) :
    (s.setFmt n r).planWriting = s.planWriting := by unfold State.setFmt; split <;> rfl
@[simp] theorem State.setFmt_planWaits (n : FormatNo) (r : FormatRecord) :
    (s.setFmt n r).planWaits = s.planWaits := by unfold State.setFmt; split <;> rfl
@[simp] theorem State.setFmt_counters (n : FormatNo) (r : FormatRecord) :
    (s.setFmt n r).counters = s.counters := by unfold State.setFmt; split <;> rfl
@[simp] theorem State.setFmt_residency (n : FormatNo) (r : FormatRecord) :
    (s.setFmt n r).residency = s.residency := by unfold State.setFmt; split <;> rfl
@[simp] theorem State.setFmt_timebase (n : FormatNo) (r : FormatRecord) :
    (s.setFmt n r).timebase = s.timebase := by unfold State.setFmt; split <;> rfl
@[simp] theorem State.setFmt_attention (n : FormatNo) (r : FormatRecord) :
    (s.setFmt n r).attention = s.attention := by unfold State.setFmt; split <;> rfl
@[simp] theorem State.setFmt_freeIndex (n : FormatNo) (r : FormatRecord) :
    (s.setFmt n r).freeIndex = s.freeIndex := by unfold State.setFmt; split <;> rfl

/-! ## setGen -/

@[simp] theorem State.setGen_pending (n : FormatNo) (g : Word16) :
    (s.setGen n g).pending = s.pending := by unfold State.setGen; split <;> rfl
@[simp] theorem State.setGen_stage (n : FormatNo) (g : Word16) :
    (s.setGen n g).stage = s.stage := by unfold State.setGen; split <;> rfl
@[simp] theorem State.setGen_rate1 (n : FormatNo) (g : Word16) :
    (s.setGen n g).rate1 = s.rate1 := by unfold State.setGen; split <;> rfl
@[simp] theorem State.setGen_rate0 (n : FormatNo) (g : Word16) :
    (s.setGen n g).rate0 = s.rate0 := by unfold State.setGen; split <;> rfl
@[simp] theorem State.setGen_links (n : FormatNo) (g : Word16) :
    (s.setGen n g).links = s.links := by unfold State.setGen; split <;> rfl
@[simp] theorem State.setGen_plan (n : FormatNo) (g : Word16) :
    (s.setGen n g).plan = s.plan := by unfold State.setGen; split <;> rfl
@[simp] theorem State.setGen_formats (n : FormatNo) (g : Word16) :
    (s.setGen n g).formats = s.formats := by unfold State.setGen; split <;> rfl
@[simp] theorem State.setGen_poolFree (n : FormatNo) (g : Word16) :
    (s.setGen n g).poolFree = s.poolFree := by unfold State.setGen; split <;> rfl
@[simp] theorem State.setGen_engine (n : FormatNo) (g : Word16) :
    (s.setGen n g).engine = s.engine := by unfold State.setGen; split <;> rfl
@[simp] theorem State.setGen_genTable (n : FormatNo) (g : Word16) :
    (s.setGen n g).genTable = s.genTable := by unfold State.setGen; split <;> rfl
@[simp] theorem State.setGen_genTableGood (n : FormatNo) (g : Word16) :
    (s.setGen n g).genTableGood = s.genTableGood := by unfold State.setGen; split <;> rfl
@[simp] theorem State.setGen_areas (n : FormatNo) (g : Word16) :
    (s.setGen n g).areas = s.areas := by unfold State.setGen; split <;> rfl
@[simp] theorem State.setGen_planA (n : FormatNo) (g : Word16) :
    (s.setGen n g).planA = s.planA := by unfold State.setGen; split <;> rfl
@[simp] theorem State.setGen_planB (n : FormatNo) (g : Word16) :
    (s.setGen n g).planB = s.planB := by unfold State.setGen; split <;> rfl
@[simp] theorem State.setGen_planCurrent (n : FormatNo) (g : Word16) :
    (s.setGen n g).planCurrent = s.planCurrent := by unfold State.setGen; split <;> rfl
@[simp] theorem State.setGen_enroll (n : FormatNo) (g : Word16) :
    (s.setGen n g).enroll = s.enroll := by unfold State.setGen; split <;> rfl
@[simp] theorem State.setGen_buffers (n : FormatNo) (g : Word16) :
    (s.setGen n g).buffers = s.buffers := by unfold State.setGen; split <;> rfl
@[simp] theorem State.setGen_queue (n : FormatNo) (g : Word16) :
    (s.setGen n g).queue = s.queue := by unfold State.setGen; split <;> rfl
@[simp] theorem State.setGen_comparing (n : FormatNo) (g : Word16) :
    (s.setGen n g).comparing = s.comparing := by unfold State.setGen; split <;> rfl
@[simp] theorem State.setGen_slots (n : FormatNo) (g : Word16) :
    (s.setGen n g).slots = s.slots := by unfold State.setGen; split <;> rfl
@[simp] theorem State.setGen_line (n : FormatNo) (g : Word16) :
    (s.setGen n g).line = s.line := by unfold State.setGen; split <;> rfl
@[simp] theorem State.setGen_active (n : FormatNo) (g : Word16) :
    (s.setGen n g).active = s.active := by unfold State.setGen; split <;> rfl
@[simp] theorem State.setGen_epoch (n : FormatNo) (g : Word16) :
    (s.setGen n g).epoch = s.epoch := by unfold State.setGen; split <;> rfl
@[simp] theorem State.setGen_planWriting (n : FormatNo) (g : Word16) :
    (s.setGen n g).planWriting = s.planWriting := by unfold State.setGen; split <;> rfl
@[simp] theorem State.setGen_planWaits (n : FormatNo) (g : Word16) :
    (s.setGen n g).planWaits = s.planWaits := by unfold State.setGen; split <;> rfl
@[simp] theorem State.setGen_counters (n : FormatNo) (g : Word16) :
    (s.setGen n g).counters = s.counters := by unfold State.setGen; split <;> rfl
@[simp] theorem State.setGen_residency (n : FormatNo) (g : Word16) :
    (s.setGen n g).residency = s.residency := by unfold State.setGen; split <;> rfl
@[simp] theorem State.setGen_timebase (n : FormatNo) (g : Word16) :
    (s.setGen n g).timebase = s.timebase := by unfold State.setGen; split <;> rfl
@[simp] theorem State.setGen_attention (n : FormatNo) (g : Word16) :
    (s.setGen n g).attention = s.attention := by unfold State.setGen; split <;> rfl
@[simp] theorem State.setGen_freeIndex (n : FormatNo) (g : Word16) :
    (s.setGen n g).freeIndex = s.freeIndex := by unfold State.setGen; split <;> rfl

/-! ## setArea -/

@[simp] theorem State.setArea_pending (n : FormatNo) (a : FormatArea) :
    (s.setArea n a).pending = s.pending := by unfold State.setArea; split <;> rfl
@[simp] theorem State.setArea_stage (n : FormatNo) (a : FormatArea) :
    (s.setArea n a).stage = s.stage := by unfold State.setArea; split <;> rfl
@[simp] theorem State.setArea_rate1 (n : FormatNo) (a : FormatArea) :
    (s.setArea n a).rate1 = s.rate1 := by unfold State.setArea; split <;> rfl
@[simp] theorem State.setArea_rate0 (n : FormatNo) (a : FormatArea) :
    (s.setArea n a).rate0 = s.rate0 := by unfold State.setArea; split <;> rfl
@[simp] theorem State.setArea_links (n : FormatNo) (a : FormatArea) :
    (s.setArea n a).links = s.links := by unfold State.setArea; split <;> rfl
@[simp] theorem State.setArea_plan (n : FormatNo) (a : FormatArea) :
    (s.setArea n a).plan = s.plan := by unfold State.setArea; split <;> rfl
@[simp] theorem State.setArea_formats (n : FormatNo) (a : FormatArea) :
    (s.setArea n a).formats = s.formats := by unfold State.setArea; split <;> rfl
@[simp] theorem State.setArea_gens (n : FormatNo) (a : FormatArea) :
    (s.setArea n a).gens = s.gens := by unfold State.setArea; split <;> rfl
@[simp] theorem State.setArea_poolFree (n : FormatNo) (a : FormatArea) :
    (s.setArea n a).poolFree = s.poolFree := by unfold State.setArea; split <;> rfl
@[simp] theorem State.setArea_engine (n : FormatNo) (a : FormatArea) :
    (s.setArea n a).engine = s.engine := by unfold State.setArea; split <;> rfl
@[simp] theorem State.setArea_genTable (n : FormatNo) (a : FormatArea) :
    (s.setArea n a).genTable = s.genTable := by unfold State.setArea; split <;> rfl
@[simp] theorem State.setArea_genTableGood (n : FormatNo) (a : FormatArea) :
    (s.setArea n a).genTableGood = s.genTableGood := by unfold State.setArea; split <;> rfl
@[simp] theorem State.setArea_planA (n : FormatNo) (a : FormatArea) :
    (s.setArea n a).planA = s.planA := by unfold State.setArea; split <;> rfl
@[simp] theorem State.setArea_planB (n : FormatNo) (a : FormatArea) :
    (s.setArea n a).planB = s.planB := by unfold State.setArea; split <;> rfl
@[simp] theorem State.setArea_planCurrent (n : FormatNo) (a : FormatArea) :
    (s.setArea n a).planCurrent = s.planCurrent := by unfold State.setArea; split <;> rfl
@[simp] theorem State.setArea_enroll (n : FormatNo) (a : FormatArea) :
    (s.setArea n a).enroll = s.enroll := by unfold State.setArea; split <;> rfl
@[simp] theorem State.setArea_buffers (n : FormatNo) (a : FormatArea) :
    (s.setArea n a).buffers = s.buffers := by unfold State.setArea; split <;> rfl
@[simp] theorem State.setArea_queue (n : FormatNo) (a : FormatArea) :
    (s.setArea n a).queue = s.queue := by unfold State.setArea; split <;> rfl
@[simp] theorem State.setArea_comparing (n : FormatNo) (a : FormatArea) :
    (s.setArea n a).comparing = s.comparing := by unfold State.setArea; split <;> rfl
@[simp] theorem State.setArea_slots (n : FormatNo) (a : FormatArea) :
    (s.setArea n a).slots = s.slots := by unfold State.setArea; split <;> rfl
@[simp] theorem State.setArea_line (n : FormatNo) (a : FormatArea) :
    (s.setArea n a).line = s.line := by unfold State.setArea; split <;> rfl
@[simp] theorem State.setArea_active (n : FormatNo) (a : FormatArea) :
    (s.setArea n a).active = s.active := by unfold State.setArea; split <;> rfl
@[simp] theorem State.setArea_epoch (n : FormatNo) (a : FormatArea) :
    (s.setArea n a).epoch = s.epoch := by unfold State.setArea; split <;> rfl
@[simp] theorem State.setArea_planWriting (n : FormatNo) (a : FormatArea) :
    (s.setArea n a).planWriting = s.planWriting := by unfold State.setArea; split <;> rfl
@[simp] theorem State.setArea_planWaits (n : FormatNo) (a : FormatArea) :
    (s.setArea n a).planWaits = s.planWaits := by unfold State.setArea; split <;> rfl
@[simp] theorem State.setArea_counters (n : FormatNo) (a : FormatArea) :
    (s.setArea n a).counters = s.counters := by unfold State.setArea; split <;> rfl
@[simp] theorem State.setArea_residency (n : FormatNo) (a : FormatArea) :
    (s.setArea n a).residency = s.residency := by unfold State.setArea; split <;> rfl
@[simp] theorem State.setArea_timebase (n : FormatNo) (a : FormatArea) :
    (s.setArea n a).timebase = s.timebase := by unfold State.setArea; split <;> rfl
@[simp] theorem State.setArea_attention (n : FormatNo) (a : FormatArea) :
    (s.setArea n a).attention = s.attention := by unfold State.setArea; split <;> rfl
@[simp] theorem State.setArea_freeIndex (n : FormatNo) (a : FormatArea) :
    (s.setArea n a).freeIndex = s.freeIndex := by unfold State.setArea; split <;> rfl

/-! ## raise -/

@[simp] theorem State.raise_pending (f : Flag) : (s.raise f).pending = s.pending := rfl
@[simp] theorem State.raise_stage (f : Flag) : (s.raise f).stage = s.stage := rfl
@[simp] theorem State.raise_rate1 (f : Flag) : (s.raise f).rate1 = s.rate1 := rfl
@[simp] theorem State.raise_rate0 (f : Flag) : (s.raise f).rate0 = s.rate0 := rfl
@[simp] theorem State.raise_links (f : Flag) : (s.raise f).links = s.links := rfl
@[simp] theorem State.raise_plan (f : Flag) : (s.raise f).plan = s.plan := rfl
@[simp] theorem State.raise_formats (f : Flag) : (s.raise f).formats = s.formats := rfl
@[simp] theorem State.raise_gens (f : Flag) : (s.raise f).gens = s.gens := rfl
@[simp] theorem State.raise_poolFree (f : Flag) : (s.raise f).poolFree = s.poolFree := rfl
@[simp] theorem State.raise_engine (f : Flag) : (s.raise f).engine = s.engine := rfl
@[simp] theorem State.raise_genTable (f : Flag) : (s.raise f).genTable = s.genTable := rfl
@[simp] theorem State.raise_genTableGood (f : Flag) : (s.raise f).genTableGood = s.genTableGood := rfl
@[simp] theorem State.raise_areas (f : Flag) : (s.raise f).areas = s.areas := rfl
@[simp] theorem State.raise_planA (f : Flag) : (s.raise f).planA = s.planA := rfl
@[simp] theorem State.raise_planB (f : Flag) : (s.raise f).planB = s.planB := rfl
@[simp] theorem State.raise_planCurrent (f : Flag) : (s.raise f).planCurrent = s.planCurrent := rfl
@[simp] theorem State.raise_enroll (f : Flag) : (s.raise f).enroll = s.enroll := rfl
@[simp] theorem State.raise_buffers (f : Flag) : (s.raise f).buffers = s.buffers := rfl
@[simp] theorem State.raise_queue (f : Flag) : (s.raise f).queue = s.queue := rfl
@[simp] theorem State.raise_comparing (f : Flag) : (s.raise f).comparing = s.comparing := rfl
@[simp] theorem State.raise_slots (f : Flag) : (s.raise f).slots = s.slots := rfl
@[simp] theorem State.raise_line (f : Flag) : (s.raise f).line = s.line := rfl
@[simp] theorem State.raise_active (f : Flag) : (s.raise f).active = s.active := rfl
@[simp] theorem State.raise_epoch (f : Flag) : (s.raise f).epoch = s.epoch := rfl
@[simp] theorem State.raise_planWriting (f : Flag) : (s.raise f).planWriting = s.planWriting := rfl
@[simp] theorem State.raise_planWaits (f : Flag) : (s.raise f).planWaits = s.planWaits := rfl
@[simp] theorem State.raise_counters (f : Flag) : (s.raise f).counters = s.counters := rfl
@[simp] theorem State.raise_residency (f : Flag) : (s.raise f).residency = s.residency := rfl
@[simp] theorem State.raise_timebase (f : Flag) : (s.raise f).timebase = s.timebase := rfl
@[simp] theorem State.raise_freeIndex (f : Flag) : (s.raise f).freeIndex = s.freeIndex := rfl

/-! ## raiseIf -/

@[simp] theorem State.raiseIf_pending (c : Bool) (f : Flag) :
    (s.raiseIf c f).pending = s.pending := by unfold State.raiseIf; split <;> rfl
@[simp] theorem State.raiseIf_stage (c : Bool) (f : Flag) :
    (s.raiseIf c f).stage = s.stage := by unfold State.raiseIf; split <;> rfl
@[simp] theorem State.raiseIf_rate1 (c : Bool) (f : Flag) :
    (s.raiseIf c f).rate1 = s.rate1 := by unfold State.raiseIf; split <;> rfl
@[simp] theorem State.raiseIf_rate0 (c : Bool) (f : Flag) :
    (s.raiseIf c f).rate0 = s.rate0 := by unfold State.raiseIf; split <;> rfl
@[simp] theorem State.raiseIf_links (c : Bool) (f : Flag) :
    (s.raiseIf c f).links = s.links := by unfold State.raiseIf; split <;> rfl
@[simp] theorem State.raiseIf_plan (c : Bool) (f : Flag) :
    (s.raiseIf c f).plan = s.plan := by unfold State.raiseIf; split <;> rfl
@[simp] theorem State.raiseIf_formats (c : Bool) (f : Flag) :
    (s.raiseIf c f).formats = s.formats := by unfold State.raiseIf; split <;> rfl
@[simp] theorem State.raiseIf_gens (c : Bool) (f : Flag) :
    (s.raiseIf c f).gens = s.gens := by unfold State.raiseIf; split <;> rfl
@[simp] theorem State.raiseIf_poolFree (c : Bool) (f : Flag) :
    (s.raiseIf c f).poolFree = s.poolFree := by unfold State.raiseIf; split <;> rfl
@[simp] theorem State.raiseIf_engine (c : Bool) (f : Flag) :
    (s.raiseIf c f).engine = s.engine := by unfold State.raiseIf; split <;> rfl
@[simp] theorem State.raiseIf_genTable (c : Bool) (f : Flag) :
    (s.raiseIf c f).genTable = s.genTable := by unfold State.raiseIf; split <;> rfl
@[simp] theorem State.raiseIf_genTableGood (c : Bool) (f : Flag) :
    (s.raiseIf c f).genTableGood = s.genTableGood := by unfold State.raiseIf; split <;> rfl
@[simp] theorem State.raiseIf_areas (c : Bool) (f : Flag) :
    (s.raiseIf c f).areas = s.areas := by unfold State.raiseIf; split <;> rfl
@[simp] theorem State.raiseIf_planA (c : Bool) (f : Flag) :
    (s.raiseIf c f).planA = s.planA := by unfold State.raiseIf; split <;> rfl
@[simp] theorem State.raiseIf_planB (c : Bool) (f : Flag) :
    (s.raiseIf c f).planB = s.planB := by unfold State.raiseIf; split <;> rfl
@[simp] theorem State.raiseIf_planCurrent (c : Bool) (f : Flag) :
    (s.raiseIf c f).planCurrent = s.planCurrent := by unfold State.raiseIf; split <;> rfl
@[simp] theorem State.raiseIf_enroll (c : Bool) (f : Flag) :
    (s.raiseIf c f).enroll = s.enroll := by unfold State.raiseIf; split <;> rfl
@[simp] theorem State.raiseIf_buffers (c : Bool) (f : Flag) :
    (s.raiseIf c f).buffers = s.buffers := by unfold State.raiseIf; split <;> rfl
@[simp] theorem State.raiseIf_queue (c : Bool) (f : Flag) :
    (s.raiseIf c f).queue = s.queue := by unfold State.raiseIf; split <;> rfl
@[simp] theorem State.raiseIf_comparing (c : Bool) (f : Flag) :
    (s.raiseIf c f).comparing = s.comparing := by unfold State.raiseIf; split <;> rfl
@[simp] theorem State.raiseIf_slots (c : Bool) (f : Flag) :
    (s.raiseIf c f).slots = s.slots := by unfold State.raiseIf; split <;> rfl
@[simp] theorem State.raiseIf_line (c : Bool) (f : Flag) :
    (s.raiseIf c f).line = s.line := by unfold State.raiseIf; split <;> rfl
@[simp] theorem State.raiseIf_active (c : Bool) (f : Flag) :
    (s.raiseIf c f).active = s.active := by unfold State.raiseIf; split <;> rfl
@[simp] theorem State.raiseIf_epoch (c : Bool) (f : Flag) :
    (s.raiseIf c f).epoch = s.epoch := by unfold State.raiseIf; split <;> rfl
@[simp] theorem State.raiseIf_planWriting (c : Bool) (f : Flag) :
    (s.raiseIf c f).planWriting = s.planWriting := by unfold State.raiseIf; split <;> rfl
@[simp] theorem State.raiseIf_planWaits (c : Bool) (f : Flag) :
    (s.raiseIf c f).planWaits = s.planWaits := by unfold State.raiseIf; split <;> rfl
@[simp] theorem State.raiseIf_counters (c : Bool) (f : Flag) :
    (s.raiseIf c f).counters = s.counters := by unfold State.raiseIf; split <;> rfl
@[simp] theorem State.raiseIf_residency (c : Bool) (f : Flag) :
    (s.raiseIf c f).residency = s.residency := by unfold State.raiseIf; split <;> rfl
@[simp] theorem State.raiseIf_timebase (c : Bool) (f : Flag) :
    (s.raiseIf c f).timebase = s.timebase := by unfold State.raiseIf; split <;> rfl
@[simp] theorem State.raiseIf_freeIndex (c : Bool) (f : Flag) :
    (s.raiseIf c f).freeIndex = s.freeIndex := by unfold State.raiseIf; split <;> rfl

/-! ## evalPermits -/

@[simp] theorem State.evalPermits_pending : (s.evalPermits).pending = s.pending := rfl
@[simp] theorem State.evalPermits_stage : (s.evalPermits).stage = s.stage := rfl
@[simp] theorem State.evalPermits_rate1 : (s.evalPermits).rate1 = s.rate1 := rfl
@[simp] theorem State.evalPermits_rate0 : (s.evalPermits).rate0 = s.rate0 := rfl
@[simp] theorem State.evalPermits_links : (s.evalPermits).links = s.links := rfl
@[simp] theorem State.evalPermits_plan : (s.evalPermits).plan = s.plan := rfl
@[simp] theorem State.evalPermits_formats : (s.evalPermits).formats = s.formats := rfl
@[simp] theorem State.evalPermits_gens : (s.evalPermits).gens = s.gens := rfl
@[simp] theorem State.evalPermits_poolFree : (s.evalPermits).poolFree = s.poolFree := rfl
@[simp] theorem State.evalPermits_engine : (s.evalPermits).engine = s.engine := rfl
@[simp] theorem State.evalPermits_genTable : (s.evalPermits).genTable = s.genTable := rfl
@[simp] theorem State.evalPermits_genTableGood : (s.evalPermits).genTableGood = s.genTableGood := rfl
@[simp] theorem State.evalPermits_areas : (s.evalPermits).areas = s.areas := rfl
@[simp] theorem State.evalPermits_planA : (s.evalPermits).planA = s.planA := rfl
@[simp] theorem State.evalPermits_planB : (s.evalPermits).planB = s.planB := rfl
@[simp] theorem State.evalPermits_planCurrent : (s.evalPermits).planCurrent = s.planCurrent := rfl
@[simp] theorem State.evalPermits_enroll : (s.evalPermits).enroll = s.enroll := rfl
@[simp] theorem State.evalPermits_buffers : (s.evalPermits).buffers = s.buffers := rfl
@[simp] theorem State.evalPermits_queue : (s.evalPermits).queue = s.queue := rfl
@[simp] theorem State.evalPermits_comparing : (s.evalPermits).comparing = s.comparing := rfl
@[simp] theorem State.evalPermits_line : (s.evalPermits).line = s.line := rfl
@[simp] theorem State.evalPermits_active : (s.evalPermits).active = s.active := rfl
@[simp] theorem State.evalPermits_epoch : (s.evalPermits).epoch = s.epoch := rfl
@[simp] theorem State.evalPermits_planWriting : (s.evalPermits).planWriting = s.planWriting := rfl
@[simp] theorem State.evalPermits_planWaits : (s.evalPermits).planWaits = s.planWaits := rfl
@[simp] theorem State.evalPermits_counters : (s.evalPermits).counters = s.counters := rfl
@[simp] theorem State.evalPermits_residency : (s.evalPermits).residency = s.residency := rfl
@[simp] theorem State.evalPermits_timebase : (s.evalPermits).timebase = s.timebase := rfl
@[simp] theorem State.evalPermits_attention : (s.evalPermits).attention = s.attention := rfl
@[simp] theorem State.evalPermits_freeIndex : (s.evalPermits).freeIndex = s.freeIndex := rfl

/-! ## respond -/

@[simp] theorem State.respond_pending (l : LinkId) (r : Result) (p : List Byte) :
    (s.respond l r p).pending = s.pending := rfl
@[simp] theorem State.respond_stage (l : LinkId) (r : Result) (p : List Byte) :
    (s.respond l r p).stage = s.stage := rfl
@[simp] theorem State.respond_rate1 (l : LinkId) (r : Result) (p : List Byte) :
    (s.respond l r p).rate1 = s.rate1 := rfl
@[simp] theorem State.respond_rate0 (l : LinkId) (r : Result) (p : List Byte) :
    (s.respond l r p).rate0 = s.rate0 := rfl
@[simp] theorem State.respond_plan (l : LinkId) (r : Result) (p : List Byte) : (s.respond l r p).plan = s.plan := rfl
@[simp] theorem State.respond_formats (l : LinkId) (r : Result) (p : List Byte) :
    (s.respond l r p).formats = s.formats := rfl
@[simp] theorem State.respond_gens (l : LinkId) (r : Result) (p : List Byte) : (s.respond l r p).gens = s.gens := rfl
@[simp] theorem State.respond_poolFree (l : LinkId) (r : Result) (p : List Byte) :
    (s.respond l r p).poolFree = s.poolFree := rfl
@[simp] theorem State.respond_engine (l : LinkId) (r : Result) (p : List Byte) :
    (s.respond l r p).engine = s.engine := rfl
@[simp] theorem State.respond_genTable (l : LinkId) (r : Result) (p : List Byte) :
    (s.respond l r p).genTable = s.genTable := rfl
@[simp] theorem State.respond_genTableGood (l : LinkId) (r : Result) (p : List Byte) :
    (s.respond l r p).genTableGood = s.genTableGood := rfl
@[simp] theorem State.respond_areas (l : LinkId) (r : Result) (p : List Byte) :
    (s.respond l r p).areas = s.areas := rfl
@[simp] theorem State.respond_planA (l : LinkId) (r : Result) (p : List Byte) :
    (s.respond l r p).planA = s.planA := rfl
@[simp] theorem State.respond_planB (l : LinkId) (r : Result) (p : List Byte) :
    (s.respond l r p).planB = s.planB := rfl
@[simp] theorem State.respond_planCurrent (l : LinkId) (r : Result) (p : List Byte) :
    (s.respond l r p).planCurrent = s.planCurrent := rfl
@[simp] theorem State.respond_enroll (l : LinkId) (r : Result) (p : List Byte) :
    (s.respond l r p).enroll = s.enroll := rfl
@[simp] theorem State.respond_buffers (l : LinkId) (r : Result) (p : List Byte) :
    (s.respond l r p).buffers = s.buffers := rfl
@[simp] theorem State.respond_queue (l : LinkId) (r : Result) (p : List Byte) :
    (s.respond l r p).queue = s.queue := rfl
@[simp] theorem State.respond_comparing (l : LinkId) (r : Result) (p : List Byte) :
    (s.respond l r p).comparing = s.comparing := rfl
@[simp] theorem State.respond_slots (l : LinkId) (r : Result) (p : List Byte) :
    (s.respond l r p).slots = s.slots := rfl
@[simp] theorem State.respond_line (l : LinkId) (r : Result) (p : List Byte) : (s.respond l r p).line = s.line := rfl
@[simp] theorem State.respond_active (l : LinkId) (r : Result) (p : List Byte) :
    (s.respond l r p).active = s.active := rfl
@[simp] theorem State.respond_epoch (l : LinkId) (r : Result) (p : List Byte) :
    (s.respond l r p).epoch = s.epoch := rfl
@[simp] theorem State.respond_planWriting (l : LinkId) (r : Result) (p : List Byte) :
    (s.respond l r p).planWriting = s.planWriting := rfl
@[simp] theorem State.respond_planWaits (l : LinkId) (r : Result) (p : List Byte) :
    (s.respond l r p).planWaits = s.planWaits := rfl
@[simp] theorem State.respond_counters (l : LinkId) (r : Result) (p : List Byte) :
    (s.respond l r p).counters = s.counters := rfl
@[simp] theorem State.respond_residency (l : LinkId) (r : Result) (p : List Byte) :
    (s.respond l r p).residency = s.residency := rfl
@[simp] theorem State.respond_timebase (l : LinkId) (r : Result) (p : List Byte) :
    (s.respond l r p).timebase = s.timebase := rfl
@[simp] theorem State.respond_attention (l : LinkId) (r : Result) (p : List Byte) :
    (s.respond l r p).attention = s.attention := rfl
@[simp] theorem State.respond_freeIndex (l : LinkId) (r : Result) (p : List Byte) :
    (s.respond l r p).freeIndex = s.freeIndex := rfl

/-! ## frameDone -/

@[simp] theorem State.frameDone_pending (l : LinkId) : (s.frameDone l).pending = s.pending := rfl
@[simp] theorem State.frameDone_stage (l : LinkId) : (s.frameDone l).stage = s.stage := rfl
@[simp] theorem State.frameDone_rate1 (l : LinkId) : (s.frameDone l).rate1 = s.rate1 := rfl
@[simp] theorem State.frameDone_rate0 (l : LinkId) : (s.frameDone l).rate0 = s.rate0 := rfl
@[simp] theorem State.frameDone_plan (l : LinkId) : (s.frameDone l).plan = s.plan := rfl
@[simp] theorem State.frameDone_formats (l : LinkId) : (s.frameDone l).formats = s.formats := rfl
@[simp] theorem State.frameDone_gens (l : LinkId) : (s.frameDone l).gens = s.gens := rfl
@[simp] theorem State.frameDone_poolFree (l : LinkId) : (s.frameDone l).poolFree = s.poolFree := rfl
@[simp] theorem State.frameDone_engine (l : LinkId) : (s.frameDone l).engine = s.engine := rfl
@[simp] theorem State.frameDone_genTable (l : LinkId) : (s.frameDone l).genTable = s.genTable := rfl
@[simp] theorem State.frameDone_genTableGood (l : LinkId) : (s.frameDone l).genTableGood = s.genTableGood := rfl
@[simp] theorem State.frameDone_areas (l : LinkId) : (s.frameDone l).areas = s.areas := rfl
@[simp] theorem State.frameDone_planA (l : LinkId) : (s.frameDone l).planA = s.planA := rfl
@[simp] theorem State.frameDone_planB (l : LinkId) : (s.frameDone l).planB = s.planB := rfl
@[simp] theorem State.frameDone_planCurrent (l : LinkId) : (s.frameDone l).planCurrent = s.planCurrent := rfl
@[simp] theorem State.frameDone_enroll (l : LinkId) : (s.frameDone l).enroll = s.enroll := rfl
@[simp] theorem State.frameDone_buffers (l : LinkId) : (s.frameDone l).buffers = s.buffers := rfl
@[simp] theorem State.frameDone_queue (l : LinkId) : (s.frameDone l).queue = s.queue := rfl
@[simp] theorem State.frameDone_comparing (l : LinkId) : (s.frameDone l).comparing = s.comparing := rfl
@[simp] theorem State.frameDone_slots (l : LinkId) : (s.frameDone l).slots = s.slots := rfl
@[simp] theorem State.frameDone_line (l : LinkId) : (s.frameDone l).line = s.line := rfl
@[simp] theorem State.frameDone_active (l : LinkId) : (s.frameDone l).active = s.active := rfl
@[simp] theorem State.frameDone_epoch (l : LinkId) : (s.frameDone l).epoch = s.epoch := rfl
@[simp] theorem State.frameDone_planWriting (l : LinkId) : (s.frameDone l).planWriting = s.planWriting := rfl
@[simp] theorem State.frameDone_planWaits (l : LinkId) : (s.frameDone l).planWaits = s.planWaits := rfl
@[simp] theorem State.frameDone_counters (l : LinkId) : (s.frameDone l).counters = s.counters := rfl
@[simp] theorem State.frameDone_residency (l : LinkId) : (s.frameDone l).residency = s.residency := rfl
@[simp] theorem State.frameDone_timebase (l : LinkId) : (s.frameDone l).timebase = s.timebase := rfl
@[simp] theorem State.frameDone_attention (l : LinkId) : (s.frameDone l).attention = s.attention := rfl
@[simp] theorem State.frameDone_freeIndex (l : LinkId) : (s.frameDone l).freeIndex = s.freeIndex := rfl

/-! ## setVerdicts -/

@[simp] theorem State.setVerdicts_pending (f : SlotId → Verdict) : (s.setVerdicts f).pending = s.pending := rfl
@[simp] theorem State.setVerdicts_stage (f : SlotId → Verdict) : (s.setVerdicts f).stage = s.stage := rfl
@[simp] theorem State.setVerdicts_rate1 (f : SlotId → Verdict) : (s.setVerdicts f).rate1 = s.rate1 := rfl
@[simp] theorem State.setVerdicts_rate0 (f : SlotId → Verdict) : (s.setVerdicts f).rate0 = s.rate0 := rfl
@[simp] theorem State.setVerdicts_links (f : SlotId → Verdict) : (s.setVerdicts f).links = s.links := rfl
@[simp] theorem State.setVerdicts_plan (f : SlotId → Verdict) : (s.setVerdicts f).plan = s.plan := rfl
@[simp] theorem State.setVerdicts_formats (f : SlotId → Verdict) : (s.setVerdicts f).formats = s.formats := rfl
@[simp] theorem State.setVerdicts_gens (f : SlotId → Verdict) : (s.setVerdicts f).gens = s.gens := rfl
@[simp] theorem State.setVerdicts_poolFree (f : SlotId → Verdict) : (s.setVerdicts f).poolFree = s.poolFree := rfl
@[simp] theorem State.setVerdicts_engine (f : SlotId → Verdict) : (s.setVerdicts f).engine = s.engine := rfl
@[simp] theorem State.setVerdicts_genTable (f : SlotId → Verdict) : (s.setVerdicts f).genTable = s.genTable := rfl
@[simp] theorem State.setVerdicts_genTableGood (f : SlotId → Verdict) :
    (s.setVerdicts f).genTableGood = s.genTableGood := rfl
@[simp] theorem State.setVerdicts_areas (f : SlotId → Verdict) : (s.setVerdicts f).areas = s.areas := rfl
@[simp] theorem State.setVerdicts_planA (f : SlotId → Verdict) : (s.setVerdicts f).planA = s.planA := rfl
@[simp] theorem State.setVerdicts_planB (f : SlotId → Verdict) : (s.setVerdicts f).planB = s.planB := rfl
@[simp] theorem State.setVerdicts_planCurrent (f : SlotId → Verdict) :
    (s.setVerdicts f).planCurrent = s.planCurrent := rfl
@[simp] theorem State.setVerdicts_enroll (f : SlotId → Verdict) : (s.setVerdicts f).enroll = s.enroll := rfl
@[simp] theorem State.setVerdicts_buffers (f : SlotId → Verdict) : (s.setVerdicts f).buffers = s.buffers := rfl
@[simp] theorem State.setVerdicts_queue (f : SlotId → Verdict) : (s.setVerdicts f).queue = s.queue := rfl
@[simp] theorem State.setVerdicts_comparing (f : SlotId → Verdict) : (s.setVerdicts f).comparing = s.comparing := rfl
@[simp] theorem State.setVerdicts_line (f : SlotId → Verdict) : (s.setVerdicts f).line = s.line := rfl
@[simp] theorem State.setVerdicts_active (f : SlotId → Verdict) : (s.setVerdicts f).active = s.active := rfl
@[simp] theorem State.setVerdicts_epoch (f : SlotId → Verdict) : (s.setVerdicts f).epoch = s.epoch := rfl
@[simp] theorem State.setVerdicts_planWriting (f : SlotId → Verdict) :
    (s.setVerdicts f).planWriting = s.planWriting := rfl
@[simp] theorem State.setVerdicts_planWaits (f : SlotId → Verdict) : (s.setVerdicts f).planWaits = s.planWaits := rfl
@[simp] theorem State.setVerdicts_counters (f : SlotId → Verdict) : (s.setVerdicts f).counters = s.counters := rfl
@[simp] theorem State.setVerdicts_residency (f : SlotId → Verdict) : (s.setVerdicts f).residency = s.residency := rfl
@[simp] theorem State.setVerdicts_timebase (f : SlotId → Verdict) : (s.setVerdicts f).timebase = s.timebase := rfl
@[simp] theorem State.setVerdicts_attention (f : SlotId → Verdict) : (s.setVerdicts f).attention = s.attention := rfl
@[simp] theorem State.setVerdicts_freeIndex (f : SlotId → Verdict) : (s.setVerdicts f).freeIndex = s.freeIndex := rfl

/-! ## restartIdle -/

@[simp] theorem State.restartIdle_pending (c : EnrollContext) : (s.restartIdle c).pending = s.pending := rfl
@[simp] theorem State.restartIdle_stage (c : EnrollContext) : (s.restartIdle c).stage = s.stage := rfl
@[simp] theorem State.restartIdle_rate1 (c : EnrollContext) : (s.restartIdle c).rate1 = s.rate1 := rfl
@[simp] theorem State.restartIdle_rate0 (c : EnrollContext) : (s.restartIdle c).rate0 = s.rate0 := rfl
@[simp] theorem State.restartIdle_links (c : EnrollContext) : (s.restartIdle c).links = s.links := rfl
@[simp] theorem State.restartIdle_plan (c : EnrollContext) : (s.restartIdle c).plan = s.plan := rfl
@[simp] theorem State.restartIdle_formats (c : EnrollContext) : (s.restartIdle c).formats = s.formats := rfl
@[simp] theorem State.restartIdle_gens (c : EnrollContext) : (s.restartIdle c).gens = s.gens := rfl
@[simp] theorem State.restartIdle_poolFree (c : EnrollContext) : (s.restartIdle c).poolFree = s.poolFree := rfl
@[simp] theorem State.restartIdle_engine (c : EnrollContext) : (s.restartIdle c).engine = s.engine := rfl
@[simp] theorem State.restartIdle_genTable (c : EnrollContext) : (s.restartIdle c).genTable = s.genTable := rfl
@[simp] theorem State.restartIdle_genTableGood (c : EnrollContext) :
    (s.restartIdle c).genTableGood = s.genTableGood := rfl
@[simp] theorem State.restartIdle_areas (c : EnrollContext) : (s.restartIdle c).areas = s.areas := rfl
@[simp] theorem State.restartIdle_planA (c : EnrollContext) : (s.restartIdle c).planA = s.planA := rfl
@[simp] theorem State.restartIdle_planB (c : EnrollContext) : (s.restartIdle c).planB = s.planB := rfl
@[simp] theorem State.restartIdle_planCurrent (c : EnrollContext) :
    (s.restartIdle c).planCurrent = s.planCurrent := rfl
@[simp] theorem State.restartIdle_buffers (c : EnrollContext) : (s.restartIdle c).buffers = s.buffers := rfl
@[simp] theorem State.restartIdle_queue (c : EnrollContext) : (s.restartIdle c).queue = s.queue := rfl
@[simp] theorem State.restartIdle_comparing (c : EnrollContext) : (s.restartIdle c).comparing = s.comparing := rfl
@[simp] theorem State.restartIdle_slots (c : EnrollContext) : (s.restartIdle c).slots = s.slots := rfl
@[simp] theorem State.restartIdle_line (c : EnrollContext) : (s.restartIdle c).line = s.line := rfl
@[simp] theorem State.restartIdle_active (c : EnrollContext) : (s.restartIdle c).active = s.active := rfl
@[simp] theorem State.restartIdle_epoch (c : EnrollContext) : (s.restartIdle c).epoch = s.epoch := rfl
@[simp] theorem State.restartIdle_planWriting (c : EnrollContext) :
    (s.restartIdle c).planWriting = s.planWriting := rfl
@[simp] theorem State.restartIdle_planWaits (c : EnrollContext) : (s.restartIdle c).planWaits = s.planWaits := rfl
@[simp] theorem State.restartIdle_counters (c : EnrollContext) : (s.restartIdle c).counters = s.counters := rfl
@[simp] theorem State.restartIdle_residency (c : EnrollContext) : (s.restartIdle c).residency = s.residency := rfl
@[simp] theorem State.restartIdle_timebase (c : EnrollContext) : (s.restartIdle c).timebase = s.timebase := rfl
@[simp] theorem State.restartIdle_attention (c : EnrollContext) : (s.restartIdle c).attention = s.attention := rfl
@[simp] theorem State.restartIdle_freeIndex (c : EnrollContext) : (s.restartIdle c).freeIndex = s.freeIndex := rfl

/-! ## What the accessors read -/

@[simp] theorem State.setLink_link (l : LinkId) (x : Link) : (s.setLink l x).link l = x := by
  simp [State.setLink, State.link]

theorem State.setLink_link_of_ne {l m : LinkId} (x : Link) (h : m ≠ l) : (s.setLink l x).link m = s.link m := by
  have : l.val ≠ m.val := fun e => h (Fin.ext e.symm)
  simp [State.setLink, State.link, this]

@[simp] theorem State.setLink_setLink (l : LinkId) (x y : Link) : (s.setLink l x).setLink l y = s.setLink l y := by
  simp [State.setLink]

@[simp] theorem State.setBuffer_buffer (l : LinkId) (b : Buffer) : (s.setBuffer l b).buffers[l.val] = b := by
  simp [State.setBuffer]

theorem State.setBuffer_buffer_of_ne {l m : LinkId} (b : Buffer) (h : m ≠ l) :
    (s.setBuffer l b).buffers[m.val] = s.buffers[m.val] := by
  have : l.val ≠ m.val := fun e => h (Fin.ext e.symm)
  simp [State.setBuffer, this]

@[simp] theorem State.setSlot_slot (k : SlotId) (x : Slot) : (s.setSlot k x).slots[k.val] = x := by
  simp [State.setSlot]

theorem State.setSlot_slot_of_ne {k j : SlotId} (x : Slot) (h : j ≠ k) :
    (s.setSlot k x).slots[j.val] = s.slots[j.val] := by
  have : k.val ≠ j.val := fun e => h (Fin.ext e.symm)
  simp [State.setSlot, this]

@[simp] theorem State.fmt_zero : s.fmt 0 = FormatRecord.f0 := rfl

@[simp] theorem State.genOf_zero : s.genOf 0 = 0 := rfl

theorem State.fmt_of_ne {n : FormatNo} (h : n ≠ 0) : s.fmt n = s.formats[n] := by simp [State.fmt, h]

theorem State.genOf_of_ne {n : FormatNo} (h : n ≠ 0) : s.genOf n = s.gens[n] := by simp [State.genOf, h]

/-- A record reads as written; F0 stays as fixed by hardware (R1). -/
theorem State.setFmt_fmt (n m : FormatNo) (r : FormatRecord) :
    (s.setFmt n r).fmt m = if m = n ∧ n ≠ 0 then r else s.fmt m := by
  by_cases hn : n = 0
  · simp [State.setFmt, hn]
  · by_cases hm : m = n
    · subst hm; simp [State.setFmt, State.fmt, hn]
    · have : n.val ≠ m.val := fun e => hm (Fin.ext e.symm)
      simp [State.setFmt, State.fmt, hn, hm, this]

/-- A generation reads as written; that of F0 stays 0 (R4). -/
theorem State.setGen_genOf (n m : FormatNo) (g : Word16) :
    (s.setGen n g).genOf m = if m = n ∧ n ≠ 0 then g else s.genOf m := by
  by_cases hn : n = 0
  · simp [State.setGen, hn]
  · by_cases hm : m = n
    · subst hm; simp [State.setGen, State.genOf, hn]
    · have : n.val ≠ m.val := fun e => hm (Fin.ext e.symm)
      simp [State.setGen, State.genOf, hn, hm, this]

/-- Reads of the format table depend on its records alone. -/
theorem State.fmt_congr {s t : State} (h : t.formats = s.formats) (n : FormatNo) : t.fmt n = s.fmt n := by
  simp [State.fmt, h]

/-- Reads of the generations depend on them alone. -/
theorem State.genOf_congr {s t : State} (h : t.gens = s.gens) (n : FormatNo) : t.genOf n = s.genOf n := by
  simp [State.genOf, h]

/-- Freeze depends on the counters alone. -/
theorem State.frozen_congr {s t : State} (h : t.counters = s.counters) : t.frozen = s.frozen := by
  simp [State.frozen, h]

/-- Holds depend on the counters alone. -/
theorem State.held_congr {s t : State} (h : t.counters = s.counters) (k : SlotId) : t.held k = s.held k := by
  simp [State.held, h]

/-! ## Slot trackers after an evaluation of the permits -/

@[simp] theorem State.evalPermits_slot (j : Nat) (h : j < 6) : s.evalPermits.slots[j] =
    { s.slots[j] with
      hold := s.held ⟨j, h⟩, permit := permitLevel s.line s.slots[j].verdict (s.held ⟨j, h⟩) } := by
  simp [State.evalPermits]

@[simp] theorem State.setVerdicts_slot (f : SlotId → Verdict) (j : Nat) (h : j < 6) : (s.setVerdicts f).slots[j] =
    { s.slots[j] with
      verdict := f ⟨j, h⟩
      timer := none
      hold := s.held ⟨j, h⟩
      permit := permitLevel s.line (f ⟨j, h⟩) (s.held ⟨j, h⟩) } := by
  simp only [State.setVerdicts, State.evalPermits_slot, Vector.getElem_ofFn]
  rfl

/-! ## Links -/

@[simp] theorem State.frameDone_link (l : LinkId) : (s.frameDone l).link l = { s.link l with rx := .hunt, gap := 0 } := by
  simp [State.frameDone]

@[simp] theorem State.respond_link (l : LinkId) (r : Result) (p : List Byte) :
    (s.respond l r p).link l = (s.link l).respond r p := by
  simp [State.respond]

end Sys2Proof.Machine
end

