-- ==== Sys2Proof/Laws/Custody.lean ====
section
/-! SUPPORT. What an event, a list of events, a setting of the verdicts, a commit and an application leave as they were,
and what they make of the slot trackers. -/

namespace Sys2Proof.Machine

variable (s : State)

/-! ## One event -/

@[simp] theorem State.takeEvent_pending (e : MonitorEvent) : (s.takeEvent e).pending = s.pending := by
  simp [State.takeEvent]
@[simp] theorem State.takeEvent_stage (e : MonitorEvent) : (s.takeEvent e).stage = s.stage := by
  simp [State.takeEvent]
@[simp] theorem State.takeEvent_rate1 (e : MonitorEvent) : (s.takeEvent e).rate1 = s.rate1 := by
  simp [State.takeEvent]
@[simp] theorem State.takeEvent_rate0 (e : MonitorEvent) : (s.takeEvent e).rate0 = s.rate0 := by
  simp [State.takeEvent]
@[simp] theorem State.takeEvent_links (e : MonitorEvent) : (s.takeEvent e).links = s.links := by
  simp [State.takeEvent]
@[simp] theorem State.takeEvent_plan (e : MonitorEvent) : (s.takeEvent e).plan = s.plan := by
  simp [State.takeEvent]
@[simp] theorem State.takeEvent_formats (e : MonitorEvent) : (s.takeEvent e).formats = s.formats := by
  simp [State.takeEvent]
@[simp] theorem State.takeEvent_gens (e : MonitorEvent) : (s.takeEvent e).gens = s.gens := by
  simp [State.takeEvent]
@[simp] theorem State.takeEvent_poolFree (e : MonitorEvent) : (s.takeEvent e).poolFree = s.poolFree := by
  simp [State.takeEvent]
@[simp] theorem State.takeEvent_engine (e : MonitorEvent) : (s.takeEvent e).engine = s.engine := by
  simp [State.takeEvent]
@[simp] theorem State.takeEvent_genTable (e : MonitorEvent) : (s.takeEvent e).genTable = s.genTable := by
  simp [State.takeEvent]
@[simp] theorem State.takeEvent_genTableGood (e : MonitorEvent) : (s.takeEvent e).genTableGood = s.genTableGood := by
  simp [State.takeEvent]
@[simp] theorem State.takeEvent_areas (e : MonitorEvent) : (s.takeEvent e).areas = s.areas := by
  simp [State.takeEvent]
@[simp] theorem State.takeEvent_planA (e : MonitorEvent) : (s.takeEvent e).planA = s.planA := by
  simp [State.takeEvent]
@[simp] theorem State.takeEvent_planB (e : MonitorEvent) : (s.takeEvent e).planB = s.planB := by
  simp [State.takeEvent]
@[simp] theorem State.takeEvent_planCurrent (e : MonitorEvent) : (s.takeEvent e).planCurrent = s.planCurrent := by
  simp [State.takeEvent]
@[simp] theorem State.takeEvent_enroll (e : MonitorEvent) : (s.takeEvent e).enroll = s.enroll := by
  simp [State.takeEvent]
@[simp] theorem State.takeEvent_buffers (e : MonitorEvent) : (s.takeEvent e).buffers = s.buffers := by
  simp [State.takeEvent]
@[simp] theorem State.takeEvent_queue (e : MonitorEvent) : (s.takeEvent e).queue = s.queue := by
  simp [State.takeEvent]
@[simp] theorem State.takeEvent_comparing (e : MonitorEvent) : (s.takeEvent e).comparing = s.comparing := by
  simp [State.takeEvent]
@[simp] theorem State.takeEvent_line (e : MonitorEvent) : (s.takeEvent e).line = s.line := by
  simp [State.takeEvent]
@[simp] theorem State.takeEvent_active (e : MonitorEvent) : (s.takeEvent e).active = s.active := by
  simp [State.takeEvent]
@[simp] theorem State.takeEvent_epoch (e : MonitorEvent) : (s.takeEvent e).epoch = s.epoch := by
  simp [State.takeEvent]
@[simp] theorem State.takeEvent_planWriting (e : MonitorEvent) : (s.takeEvent e).planWriting = s.planWriting := by
  simp [State.takeEvent]
@[simp] theorem State.takeEvent_planWaits (e : MonitorEvent) : (s.takeEvent e).planWaits = s.planWaits := by
  simp [State.takeEvent]
@[simp] theorem State.takeEvent_residency (e : MonitorEvent) : (s.takeEvent e).residency = s.residency := by
  simp [State.takeEvent]
@[simp] theorem State.takeEvent_timebase (e : MonitorEvent) : (s.takeEvent e).timebase = s.timebase := by
  simp [State.takeEvent]
@[simp] theorem State.takeEvent_freeIndex (e : MonitorEvent) : (s.takeEvent e).freeIndex = s.freeIndex := by
  simp [State.takeEvent]

/-- The counters after an event: each judges it for itself under the freeze in force (R128, R132). -/
@[simp] theorem State.takeEvent_counter (e : MonitorEvent) (i : Nat) (h : i < 4) :
    (s.takeEvent e).counters[i] = (s.counters[i]).take s.frozen e := by
  simp [State.takeEvent]

/-- Attention TRIP is set by an overflow (R132). -/
theorem State.takeEvent_attention (e : MonitorEvent) : (s.takeEvent e).attention =
    if s.overflows e then s.attention ||| BitVec.twoPow 9 7 else s.attention := by
  unfold State.takeEvent State.raiseIf
  split <;> rfl

/-- A tracker after an event: the hold and the permit alone may have changed (R135, R90). -/
@[simp] theorem State.takeEvent_slot (e : MonitorEvent) (j : Nat) (h : j < 6) : (s.takeEvent e).slots[j] =
    { s.slots[j] with
      hold := (s.takeEvent e).held ⟨j, h⟩
      permit := permitLevel s.line s.slots[j].verdict ((s.takeEvent e).held ⟨j, h⟩) } := by
  have hh : ∀ k, (s.takeEvent e).held k =
      (State.raiseIf (s.overflows e) .trip
        { s with counters := Vector.ofFn fun i => (s.counters[i]).take s.frozen e }).held k :=
    fun k => State.held_congr rfl k
  rw [hh]
  unfold State.takeEvent
  rw [State.evalPermits_slot]
  simp

/-! ## Events in order -/

@[simp] theorem State.takeEvents_pending (es : List MonitorEvent) : (s.takeEvents es).pending = s.pending := by
  induction es generalizing s with
  | nil => rfl
  | cons e es ih => exact (ih _).trans (s.takeEvent_pending e)
@[simp] theorem State.takeEvents_stage (es : List MonitorEvent) : (s.takeEvents es).stage = s.stage := by
  induction es generalizing s with
  | nil => rfl
  | cons e es ih => exact (ih _).trans (s.takeEvent_stage e)
@[simp] theorem State.takeEvents_rate1 (es : List MonitorEvent) : (s.takeEvents es).rate1 = s.rate1 := by
  induction es generalizing s with
  | nil => rfl
  | cons e es ih => exact (ih _).trans (s.takeEvent_rate1 e)
@[simp] theorem State.takeEvents_rate0 (es : List MonitorEvent) : (s.takeEvents es).rate0 = s.rate0 := by
  induction es generalizing s with
  | nil => rfl
  | cons e es ih => exact (ih _).trans (s.takeEvent_rate0 e)
@[simp] theorem State.takeEvents_links (es : List MonitorEvent) : (s.takeEvents es).links = s.links := by
  induction es generalizing s with
  | nil => rfl
  | cons e es ih => exact (ih _).trans (s.takeEvent_links e)
@[simp] theorem State.takeEvents_plan (es : List MonitorEvent) : (s.takeEvents es).plan = s.plan := by
  induction es generalizing s with
  | nil => rfl
  | cons e es ih => exact (ih _).trans (s.takeEvent_plan e)
@[simp] theorem State.takeEvents_formats (es : List MonitorEvent) : (s.takeEvents es).formats = s.formats := by
  induction es generalizing s with
  | nil => rfl
  | cons e es ih => exact (ih _).trans (s.takeEvent_formats e)
@[simp] theorem State.takeEvents_gens (es : List MonitorEvent) : (s.takeEvents es).gens = s.gens := by
  induction es generalizing s with
  | nil => rfl
  | cons e es ih => exact (ih _).trans (s.takeEvent_gens e)
@[simp] theorem State.takeEvents_poolFree (es : List MonitorEvent) : (s.takeEvents es).poolFree = s.poolFree := by
  induction es generalizing s with
  | nil => rfl
  | cons e es ih => exact (ih _).trans (s.takeEvent_poolFree e)
@[simp] theorem State.takeEvents_engine (es : List MonitorEvent) : (s.takeEvents es).engine = s.engine := by
  induction es generalizing s with
  | nil => rfl
  | cons e es ih => exact (ih _).trans (s.takeEvent_engine e)
@[simp] theorem State.takeEvents_genTable (es : List MonitorEvent) : (s.takeEvents es).genTable = s.genTable := by
  induction es generalizing s with
  | nil => rfl
  | cons e es ih => exact (ih _).trans (s.takeEvent_genTable e)
@[simp] theorem State.takeEvents_genTableGood (es : List MonitorEvent) : (s.takeEvents es).genTableGood = s.genTableGood := by
  induction es generalizing s with
  | nil => rfl
  | cons e es ih => exact (ih _).trans (s.takeEvent_genTableGood e)
@[simp] theorem State.takeEvents_areas (es : List MonitorEvent) : (s.takeEvents es).areas = s.areas := by
  induction es generalizing s with
  | nil => rfl
  | cons e es ih => exact (ih _).trans (s.takeEvent_areas e)
@[simp] theorem State.takeEvents_planA (es : List MonitorEvent) : (s.takeEvents es).planA = s.planA := by
  induction es generalizing s with
  | nil => rfl
  | cons e es ih => exact (ih _).trans (s.takeEvent_planA e)
@[simp] theorem State.takeEvents_planB (es : List MonitorEvent) : (s.takeEvents es).planB = s.planB := by
  induction es generalizing s with
  | nil => rfl
  | cons e es ih => exact (ih _).trans (s.takeEvent_planB e)
@[simp] theorem State.takeEvents_planCurrent (es : List MonitorEvent) : (s.takeEvents es).planCurrent = s.planCurrent := by
  induction es generalizing s with
  | nil => rfl
  | cons e es ih => exact (ih _).trans (s.takeEvent_planCurrent e)
@[simp] theorem State.takeEvents_enroll (es : List MonitorEvent) : (s.takeEvents es).enroll = s.enroll := by
  induction es generalizing s with
  | nil => rfl
  | cons e es ih => exact (ih _).trans (s.takeEvent_enroll e)
@[simp] theorem State.takeEvents_buffers (es : List MonitorEvent) : (s.takeEvents es).buffers = s.buffers := by
  induction es generalizing s with
  | nil => rfl
  | cons e es ih => exact (ih _).trans (s.takeEvent_buffers e)
@[simp] theorem State.takeEvents_queue (es : List MonitorEvent) : (s.takeEvents es).queue = s.queue := by
  induction es generalizing s with
  | nil => rfl
  | cons e es ih => exact (ih _).trans (s.takeEvent_queue e)
@[simp] theorem State.takeEvents_comparing (es : List MonitorEvent) : (s.takeEvents es).comparing = s.comparing := by
  induction es generalizing s with
  | nil => rfl
  | cons e es ih => exact (ih _).trans (s.takeEvent_comparing e)
@[simp] theorem State.takeEvents_line (es : List MonitorEvent) : (s.takeEvents es).line = s.line := by
  induction es generalizing s with
  | nil => rfl
  | cons e es ih => exact (ih _).trans (s.takeEvent_line e)
@[simp] theorem State.takeEvents_active (es : List MonitorEvent) : (s.takeEvents es).active = s.active := by
  induction es generalizing s with
  | nil => rfl
  | cons e es ih => exact (ih _).trans (s.takeEvent_active e)
@[simp] theorem State.takeEvents_epoch (es : List MonitorEvent) : (s.takeEvents es).epoch = s.epoch := by
  induction es generalizing s with
  | nil => rfl
  | cons e es ih => exact (ih _).trans (s.takeEvent_epoch e)
@[simp] theorem State.takeEvents_planWriting (es : List MonitorEvent) : (s.takeEvents es).planWriting = s.planWriting := by
  induction es generalizing s with
  | nil => rfl
  | cons e es ih => exact (ih _).trans (s.takeEvent_planWriting e)
@[simp] theorem State.takeEvents_planWaits (es : List MonitorEvent) : (s.takeEvents es).planWaits = s.planWaits := by
  induction es generalizing s with
  | nil => rfl
  | cons e es ih => exact (ih _).trans (s.takeEvent_planWaits e)
@[simp] theorem State.takeEvents_residency (es : List MonitorEvent) : (s.takeEvents es).residency = s.residency := by
  induction es generalizing s with
  | nil => rfl
  | cons e es ih => exact (ih _).trans (s.takeEvent_residency e)
@[simp] theorem State.takeEvents_timebase (es : List MonitorEvent) : (s.takeEvents es).timebase = s.timebase := by
  induction es generalizing s with
  | nil => rfl
  | cons e es ih => exact (ih _).trans (s.takeEvent_timebase e)
@[simp] theorem State.takeEvents_freeIndex (es : List MonitorEvent) : (s.takeEvents es).freeIndex = s.freeIndex := by
  induction es generalizing s with
  | nil => rfl
  | cons e es ih => exact (ih _).trans (s.takeEvent_freeIndex e)

theorem State.takeEvents_cons (e : MonitorEvent) (es : List MonitorEvent) :
    s.takeEvents (e :: es) = (s.takeEvent e).takeEvents es := rfl

/-- Verdict, timer, memory and summary of every tracker outlast events. -/
theorem State.takeEvents_sameCustody (es : List MonitorEvent) : s.SameCustody (s.takeEvents es) := by
  induction es generalizing s with
  | nil => exact fun _ => ⟨rfl, rfl, rfl, rfl⟩
  | cons e es ih =>
    intro k
    obtain ⟨h1, h2, h3, h4⟩ := ih (s.takeEvent e) k
    simp only [Fin.getElem_fin, State.takeEvent_slot] at h1 h2 h3 h4
    exact ⟨h1, h2, h3, h4⟩

/-! ## The line -/

@[simp] theorem State.standDown_pending : (s.standDown).pending = s.pending := rfl
@[simp] theorem State.standDown_stage : (s.standDown).stage = s.stage := rfl
@[simp] theorem State.standDown_rate1 : (s.standDown).rate1 = s.rate1 := rfl
@[simp] theorem State.standDown_rate0 : (s.standDown).rate0 = s.rate0 := rfl
@[simp] theorem State.standDown_links : (s.standDown).links = s.links := rfl
@[simp] theorem State.standDown_plan : (s.standDown).plan = s.plan := rfl
@[simp] theorem State.standDown_formats : (s.standDown).formats = s.formats := rfl
@[simp] theorem State.standDown_gens : (s.standDown).gens = s.gens := rfl
@[simp] theorem State.standDown_poolFree : (s.standDown).poolFree = s.poolFree := rfl
@[simp] theorem State.standDown_engine : (s.standDown).engine = s.engine := rfl
@[simp] theorem State.standDown_genTable : (s.standDown).genTable = s.genTable := rfl
@[simp] theorem State.standDown_genTableGood : (s.standDown).genTableGood = s.genTableGood := rfl
@[simp] theorem State.standDown_areas : (s.standDown).areas = s.areas := rfl
@[simp] theorem State.standDown_planA : (s.standDown).planA = s.planA := rfl
@[simp] theorem State.standDown_planB : (s.standDown).planB = s.planB := rfl
@[simp] theorem State.standDown_planCurrent : (s.standDown).planCurrent = s.planCurrent := rfl
@[simp] theorem State.standDown_enroll : (s.standDown).enroll = s.enroll := rfl
@[simp] theorem State.standDown_buffers : (s.standDown).buffers = s.buffers := rfl
@[simp] theorem State.standDown_queue : (s.standDown).queue = s.queue := rfl
@[simp] theorem State.standDown_comparing : (s.standDown).comparing = s.comparing := rfl
@[simp] theorem State.standDown_planWriting : (s.standDown).planWriting = s.planWriting := rfl
@[simp] theorem State.standDown_planWaits : (s.standDown).planWaits = s.planWaits := rfl
@[simp] theorem State.standDown_counters : (s.standDown).counters = s.counters := rfl
@[simp] theorem State.standDown_residency : (s.standDown).residency = s.residency := rfl
@[simp] theorem State.standDown_timebase : (s.standDown).timebase = s.timebase := rfl
@[simp] theorem State.standDown_attention : (s.standDown).attention = s.attention := rfl
@[simp] theorem State.standDown_freeIndex : (s.standDown).freeIndex = s.freeIndex := rfl

@[simp] theorem State.startChangeover_pending (n : FormatNo) (c : Cause) : (s.startChangeover n c).pending = s.pending := rfl
@[simp] theorem State.startChangeover_stage (n : FormatNo) (c : Cause) : (s.startChangeover n c).stage = s.stage := rfl
@[simp] theorem State.startChangeover_rate1 (n : FormatNo) (c : Cause) : (s.startChangeover n c).rate1 = s.rate1 := rfl
@[simp] theorem State.startChangeover_rate0 (n : FormatNo) (c : Cause) : (s.startChangeover n c).rate0 = s.rate0 := rfl
@[simp] theorem State.startChangeover_links (n : FormatNo) (c : Cause) : (s.startChangeover n c).links = s.links := rfl
@[simp] theorem State.startChangeover_plan (n : FormatNo) (c : Cause) : (s.startChangeover n c).plan = s.plan := rfl
@[simp] theorem State.startChangeover_formats (n : FormatNo) (c : Cause) : (s.startChangeover n c).formats = s.formats := rfl
@[simp] theorem State.startChangeover_gens (n : FormatNo) (c : Cause) : (s.startChangeover n c).gens = s.gens := rfl
@[simp] theorem State.startChangeover_poolFree (n : FormatNo) (c : Cause) : (s.startChangeover n c).poolFree = s.poolFree := rfl
@[simp] theorem State.startChangeover_engine (n : FormatNo) (c : Cause) : (s.startChangeover n c).engine = s.engine := rfl
@[simp] theorem State.startChangeover_genTable (n : FormatNo) (c : Cause) : (s.startChangeover n c).genTable = s.genTable := rfl
@[simp] theorem State.startChangeover_genTableGood (n : FormatNo) (c : Cause) : (s.startChangeover n c).genTableGood = s.genTableGood := rfl
@[simp] theorem State.startChangeover_areas (n : FormatNo) (c : Cause) : (s.startChangeover n c).areas = s.areas := rfl
@[simp] theorem State.startChangeover_planA (n : FormatNo) (c : Cause) : (s.startChangeover n c).planA = s.planA := rfl
@[simp] theorem State.startChangeover_planB (n : FormatNo) (c : Cause) : (s.startChangeover n c).planB = s.planB := rfl
@[simp] theorem State.startChangeover_planCurrent (n : FormatNo) (c : Cause) : (s.startChangeover n c).planCurrent = s.planCurrent := rfl
@[simp] theorem State.startChangeover_enroll (n : FormatNo) (c : Cause) : (s.startChangeover n c).enroll = s.enroll := rfl
@[simp] theorem State.startChangeover_buffers (n : FormatNo) (c : Cause) : (s.startChangeover n c).buffers = s.buffers := rfl
@[simp] theorem State.startChangeover_queue (n : FormatNo) (c : Cause) : (s.startChangeover n c).queue = s.queue := rfl
@[simp] theorem State.startChangeover_comparing (n : FormatNo) (c : Cause) : (s.startChangeover n c).comparing = s.comparing := rfl
@[simp] theorem State.startChangeover_active (n : FormatNo) (c : Cause) : (s.startChangeover n c).active = s.active := rfl
@[simp] theorem State.startChangeover_planWriting (n : FormatNo) (c : Cause) : (s.startChangeover n c).planWriting = s.planWriting := rfl
@[simp] theorem State.startChangeover_planWaits (n : FormatNo) (c : Cause) : (s.startChangeover n c).planWaits = s.planWaits := rfl
@[simp] theorem State.startChangeover_counters (n : FormatNo) (c : Cause) : (s.startChangeover n c).counters = s.counters := rfl
@[simp] theorem State.startChangeover_residency (n : FormatNo) (c : Cause) : (s.startChangeover n c).residency = s.residency := rfl
@[simp] theorem State.startChangeover_timebase (n : FormatNo) (c : Cause) : (s.startChangeover n c).timebase = s.timebase := rfl
@[simp] theorem State.startChangeover_attention (n : FormatNo) (c : Cause) : (s.startChangeover n c).attention = s.attention := rfl
@[simp] theorem State.startChangeover_freeIndex (n : FormatNo) (c : Cause) : (s.startChangeover n c).freeIndex = s.freeIndex := rfl

@[simp] theorem State.enterService_pending (f : FormatNo) (kept : SlotSet) (ret : FormatNo) : (s.enterService f kept ret).pending = s.pending := rfl
@[simp] theorem State.enterService_stage (f : FormatNo) (kept : SlotSet) (ret : FormatNo) : (s.enterService f kept ret).stage = s.stage := rfl
@[simp] theorem State.enterService_rate1 (f : FormatNo) (kept : SlotSet) (ret : FormatNo) : (s.enterService f kept ret).rate1 = s.rate1 := rfl
@[simp] theorem State.enterService_rate0 (f : FormatNo) (kept : SlotSet) (ret : FormatNo) : (s.enterService f kept ret).rate0 = s.rate0 := rfl
@[simp] theorem State.enterService_links (f : FormatNo) (kept : SlotSet) (ret : FormatNo) : (s.enterService f kept ret).links = s.links := rfl
@[simp] theorem State.enterService_plan (f : FormatNo) (kept : SlotSet) (ret : FormatNo) : (s.enterService f kept ret).plan = s.plan := rfl
@[simp] theorem State.enterService_formats (f : FormatNo) (kept : SlotSet) (ret : FormatNo) : (s.enterService f kept ret).formats = s.formats := rfl
@[simp] theorem State.enterService_gens (f : FormatNo) (kept : SlotSet) (ret : FormatNo) : (s.enterService f kept ret).gens = s.gens := rfl
@[simp] theorem State.enterService_poolFree (f : FormatNo) (kept : SlotSet) (ret : FormatNo) : (s.enterService f kept ret).poolFree = s.poolFree := rfl
@[simp] theorem State.enterService_engine (f : FormatNo) (kept : SlotSet) (ret : FormatNo) : (s.enterService f kept ret).engine = s.engine := rfl
@[simp] theorem State.enterService_genTable (f : FormatNo) (kept : SlotSet) (ret : FormatNo) : (s.enterService f kept ret).genTable = s.genTable := rfl
@[simp] theorem State.enterService_genTableGood (f : FormatNo) (kept : SlotSet) (ret : FormatNo) : (s.enterService f kept ret).genTableGood = s.genTableGood := rfl
@[simp] theorem State.enterService_areas (f : FormatNo) (kept : SlotSet) (ret : FormatNo) : (s.enterService f kept ret).areas = s.areas := rfl
@[simp] theorem State.enterService_planA (f : FormatNo) (kept : SlotSet) (ret : FormatNo) : (s.enterService f kept ret).planA = s.planA := rfl
@[simp] theorem State.enterService_planB (f : FormatNo) (kept : SlotSet) (ret : FormatNo) : (s.enterService f kept ret).planB = s.planB := rfl
@[simp] theorem State.enterService_planCurrent (f : FormatNo) (kept : SlotSet) (ret : FormatNo) : (s.enterService f kept ret).planCurrent = s.planCurrent := rfl
@[simp] theorem State.enterService_enroll (f : FormatNo) (kept : SlotSet) (ret : FormatNo) : (s.enterService f kept ret).enroll = s.enroll := rfl
@[simp] theorem State.enterService_buffers (f : FormatNo) (kept : SlotSet) (ret : FormatNo) : (s.enterService f kept ret).buffers = s.buffers := rfl
@[simp] theorem State.enterService_queue (f : FormatNo) (kept : SlotSet) (ret : FormatNo) : (s.enterService f kept ret).queue = s.queue := rfl
@[simp] theorem State.enterService_comparing (f : FormatNo) (kept : SlotSet) (ret : FormatNo) : (s.enterService f kept ret).comparing = s.comparing := rfl
@[simp] theorem State.enterService_planWriting (f : FormatNo) (kept : SlotSet) (ret : FormatNo) : (s.enterService f kept ret).planWriting = s.planWriting := rfl
@[simp] theorem State.enterService_planWaits (f : FormatNo) (kept : SlotSet) (ret : FormatNo) : (s.enterService f kept ret).planWaits = s.planWaits := rfl
@[simp] theorem State.enterService_counters (f : FormatNo) (kept : SlotSet) (ret : FormatNo) : (s.enterService f kept ret).counters = s.counters := rfl
@[simp] theorem State.enterService_residency (f : FormatNo) (kept : SlotSet) (ret : FormatNo) : (s.enterService f kept ret).residency = s.residency := rfl
@[simp] theorem State.enterService_timebase (f : FormatNo) (kept : SlotSet) (ret : FormatNo) : (s.enterService f kept ret).timebase = s.timebase := rfl
@[simp] theorem State.enterService_attention (f : FormatNo) (kept : SlotSet) (ret : FormatNo) : (s.enterService f kept ret).attention = s.attention := rfl
@[simp] theorem State.enterService_freeIndex (f : FormatNo) (kept : SlotSet) (ret : FormatNo) : (s.enterService f kept ret).freeIndex = s.freeIndex := rfl

@[simp] theorem State.commit_pending (c : Changeover) : (s.commit c).pending = s.pending := rfl
@[simp] theorem State.commit_stage (c : Changeover) : (s.commit c).stage = s.stage := rfl
@[simp] theorem State.commit_rate1 (c : Changeover) : (s.commit c).rate1 = s.rate1 := rfl
@[simp] theorem State.commit_rate0 (c : Changeover) : (s.commit c).rate0 = s.rate0 := rfl
@[simp] theorem State.commit_links (c : Changeover) : (s.commit c).links = s.links := rfl
@[simp] theorem State.commit_plan (c : Changeover) : (s.commit c).plan = s.plan := rfl
@[simp] theorem State.commit_formats (c : Changeover) : (s.commit c).formats = s.formats := rfl
@[simp] theorem State.commit_gens (c : Changeover) : (s.commit c).gens = s.gens := rfl
@[simp] theorem State.commit_poolFree (c : Changeover) : (s.commit c).poolFree = s.poolFree := rfl
@[simp] theorem State.commit_engine (c : Changeover) : (s.commit c).engine = s.engine := rfl
@[simp] theorem State.commit_genTable (c : Changeover) : (s.commit c).genTable = s.genTable := rfl
@[simp] theorem State.commit_genTableGood (c : Changeover) : (s.commit c).genTableGood = s.genTableGood := rfl
@[simp] theorem State.commit_areas (c : Changeover) : (s.commit c).areas = s.areas := rfl
@[simp] theorem State.commit_planA (c : Changeover) : (s.commit c).planA = s.planA := rfl
@[simp] theorem State.commit_planB (c : Changeover) : (s.commit c).planB = s.planB := rfl
@[simp] theorem State.commit_planCurrent (c : Changeover) : (s.commit c).planCurrent = s.planCurrent := rfl
@[simp] theorem State.commit_enroll (c : Changeover) : (s.commit c).enroll = s.enroll := rfl
@[simp] theorem State.commit_buffers (c : Changeover) : (s.commit c).buffers = s.buffers := rfl
@[simp] theorem State.commit_queue (c : Changeover) : (s.commit c).queue = s.queue := rfl
@[simp] theorem State.commit_comparing (c : Changeover) : (s.commit c).comparing = s.comparing := rfl
@[simp] theorem State.commit_planWriting (c : Changeover) : (s.commit c).planWriting = s.planWriting := rfl
@[simp] theorem State.commit_planWaits (c : Changeover) : (s.commit c).planWaits = s.planWaits := rfl
@[simp] theorem State.commit_counters (c : Changeover) : (s.commit c).counters = s.counters := rfl
@[simp] theorem State.commit_residency (c : Changeover) : (s.commit c).residency = s.residency := rfl
@[simp] theorem State.commit_timebase (c : Changeover) : (s.commit c).timebase = s.timebase := rfl
@[simp] theorem State.commit_freeIndex (c : Changeover) : (s.commit c).freeIndex = s.freeIndex := rfl

/-! ## A readiness report and an application -/

@[simp] theorem State.reportReady_pending (k : SlotId) (b : Bool) : (s.reportReady k b).pending = s.pending := by
  unfold State.reportReady; split <;> (try split) <;> rfl
@[simp] theorem State.reportReady_stage (k : SlotId) (b : Bool) : (s.reportReady k b).stage = s.stage := by
  unfold State.reportReady; split <;> (try split) <;> rfl
@[simp] theorem State.reportReady_rate1 (k : SlotId) (b : Bool) : (s.reportReady k b).rate1 = s.rate1 := by
  unfold State.reportReady; split <;> (try split) <;> rfl
@[simp] theorem State.reportReady_rate0 (k : SlotId) (b : Bool) : (s.reportReady k b).rate0 = s.rate0 := by
  unfold State.reportReady; split <;> (try split) <;> rfl
@[simp] theorem State.reportReady_links (k : SlotId) (b : Bool) : (s.reportReady k b).links = s.links := by
  unfold State.reportReady; split <;> (try split) <;> rfl
@[simp] theorem State.reportReady_plan (k : SlotId) (b : Bool) : (s.reportReady k b).plan = s.plan := by
  unfold State.reportReady; split <;> (try split) <;> rfl
@[simp] theorem State.reportReady_formats (k : SlotId) (b : Bool) : (s.reportReady k b).formats = s.formats := by
  unfold State.reportReady; split <;> (try split) <;> rfl
@[simp] theorem State.reportReady_gens (k : SlotId) (b : Bool) : (s.reportReady k b).gens = s.gens := by
  unfold State.reportReady; split <;> (try split) <;> rfl
@[simp] theorem State.reportReady_poolFree (k : SlotId) (b : Bool) : (s.reportReady k b).poolFree = s.poolFree := by
  unfold State.reportReady; split <;> (try split) <;> rfl
@[simp] theorem State.reportReady_engine (k : SlotId) (b : Bool) : (s.reportReady k b).engine = s.engine := by
  unfold State.reportReady; split <;> (try split) <;> rfl
@[simp] theorem State.reportReady_genTable (k : SlotId) (b : Bool) : (s.reportReady k b).genTable = s.genTable := by
  unfold State.reportReady; split <;> (try split) <;> rfl
@[simp] theorem State.reportReady_genTableGood (k : SlotId) (b : Bool) : (s.reportReady k b).genTableGood = s.genTableGood := by
  unfold State.reportReady; split <;> (try split) <;> rfl
@[simp] theorem State.reportReady_areas (k : SlotId) (b : Bool) : (s.reportReady k b).areas = s.areas := by
  unfold State.reportReady; split <;> (try split) <;> rfl
@[simp] theorem State.reportReady_planA (k : SlotId) (b : Bool) : (s.reportReady k b).planA = s.planA := by
  unfold State.reportReady; split <;> (try split) <;> rfl
@[simp] theorem State.reportReady_planB (k : SlotId) (b : Bool) : (s.reportReady k b).planB = s.planB := by
  unfold State.reportReady; split <;> (try split) <;> rfl
@[simp] theorem State.reportReady_planCurrent (k : SlotId) (b : Bool) : (s.reportReady k b).planCurrent = s.planCurrent := by
  unfold State.reportReady; split <;> (try split) <;> rfl
@[simp] theorem State.reportReady_enroll (k : SlotId) (b : Bool) : (s.reportReady k b).enroll = s.enroll := by
  unfold State.reportReady; split <;> (try split) <;> rfl
@[simp] theorem State.reportReady_buffers (k : SlotId) (b : Bool) : (s.reportReady k b).buffers = s.buffers := by
  unfold State.reportReady; split <;> (try split) <;> rfl
@[simp] theorem State.reportReady_queue (k : SlotId) (b : Bool) : (s.reportReady k b).queue = s.queue := by
  unfold State.reportReady; split <;> (try split) <;> rfl
@[simp] theorem State.reportReady_comparing (k : SlotId) (b : Bool) : (s.reportReady k b).comparing = s.comparing := by
  unfold State.reportReady; split <;> (try split) <;> rfl
@[simp] theorem State.reportReady_planWriting (k : SlotId) (b : Bool) : (s.reportReady k b).planWriting = s.planWriting := by
  unfold State.reportReady; split <;> (try split) <;> rfl
@[simp] theorem State.reportReady_planWaits (k : SlotId) (b : Bool) : (s.reportReady k b).planWaits = s.planWaits := by
  unfold State.reportReady; split <;> (try split) <;> rfl
@[simp] theorem State.reportReady_counters (k : SlotId) (b : Bool) : (s.reportReady k b).counters = s.counters := by
  unfold State.reportReady; split <;> (try split) <;> rfl
@[simp] theorem State.reportReady_residency (k : SlotId) (b : Bool) : (s.reportReady k b).residency = s.residency := by
  unfold State.reportReady; split <;> (try split) <;> rfl
@[simp] theorem State.reportReady_timebase (k : SlotId) (b : Bool) : (s.reportReady k b).timebase = s.timebase := by
  unfold State.reportReady; split <;> (try split) <;> rfl
@[simp] theorem State.reportReady_freeIndex (k : SlotId) (b : Bool) : (s.reportReady k b).freeIndex = s.freeIndex := by
  unfold State.reportReady; split <;> (try split) <;> rfl
@[simp] theorem State.applyResult_pending (v : Verification) (seq : List ClassRecord) :
    (s.applyResult v seq).pending = s.pending := by
  simp only [State.applyResult, State.timerOrReport, State.evalPermits_pending, State.raiseIf_pending]
  split <;> simp
@[simp] theorem State.applyResult_stage (v : Verification) (seq : List ClassRecord) :
    (s.applyResult v seq).stage = s.stage := by
  simp only [State.applyResult, State.timerOrReport, State.evalPermits_stage, State.raiseIf_stage]
  split <;> simp
@[simp] theorem State.applyResult_rate1 (v : Verification) (seq : List ClassRecord) :
    (s.applyResult v seq).rate1 = s.rate1 := by
  simp only [State.applyResult, State.timerOrReport, State.evalPermits_rate1, State.raiseIf_rate1]
  split <;> simp
@[simp] theorem State.applyResult_rate0 (v : Verification) (seq : List ClassRecord) :
    (s.applyResult v seq).rate0 = s.rate0 := by
  simp only [State.applyResult, State.timerOrReport, State.evalPermits_rate0, State.raiseIf_rate0]
  split <;> simp
@[simp] theorem State.applyResult_links (v : Verification) (seq : List ClassRecord) :
    (s.applyResult v seq).links = s.links := by
  simp only [State.applyResult, State.timerOrReport, State.evalPermits_links, State.raiseIf_links]
  split <;> simp
@[simp] theorem State.applyResult_plan (v : Verification) (seq : List ClassRecord) :
    (s.applyResult v seq).plan = s.plan := by
  simp only [State.applyResult, State.timerOrReport, State.evalPermits_plan, State.raiseIf_plan]
  split <;> simp
@[simp] theorem State.applyResult_formats (v : Verification) (seq : List ClassRecord) :
    (s.applyResult v seq).formats = s.formats := by
  simp only [State.applyResult, State.timerOrReport, State.evalPermits_formats, State.raiseIf_formats]
  split <;> simp
@[simp] theorem State.applyResult_gens (v : Verification) (seq : List ClassRecord) :
    (s.applyResult v seq).gens = s.gens := by
  simp only [State.applyResult, State.timerOrReport, State.evalPermits_gens, State.raiseIf_gens]
  split <;> simp
@[simp] theorem State.applyResult_poolFree (v : Verification) (seq : List ClassRecord) :
    (s.applyResult v seq).poolFree = s.poolFree := by
  simp only [State.applyResult, State.timerOrReport, State.evalPermits_poolFree, State.raiseIf_poolFree]
  split <;> simp
@[simp] theorem State.applyResult_engine (v : Verification) (seq : List ClassRecord) :
    (s.applyResult v seq).engine = s.engine := by
  simp only [State.applyResult, State.timerOrReport, State.evalPermits_engine, State.raiseIf_engine]
  split <;> simp
@[simp] theorem State.applyResult_genTable (v : Verification) (seq : List ClassRecord) :
    (s.applyResult v seq).genTable = s.genTable := by
  simp only [State.applyResult, State.timerOrReport, State.evalPermits_genTable, State.raiseIf_genTable]
  split <;> simp
@[simp] theorem State.applyResult_genTableGood (v : Verification) (seq : List ClassRecord) :
    (s.applyResult v seq).genTableGood = s.genTableGood := by
  simp only [State.applyResult, State.timerOrReport, State.evalPermits_genTableGood, State.raiseIf_genTableGood]
  split <;> simp
@[simp] theorem State.applyResult_areas (v : Verification) (seq : List ClassRecord) :
    (s.applyResult v seq).areas = s.areas := by
  simp only [State.applyResult, State.timerOrReport, State.evalPermits_areas, State.raiseIf_areas]
  split <;> simp
@[simp] theorem State.applyResult_planA (v : Verification) (seq : List ClassRecord) :
    (s.applyResult v seq).planA = s.planA := by
  simp only [State.applyResult, State.timerOrReport, State.evalPermits_planA, State.raiseIf_planA]
  split <;> simp
@[simp] theorem State.applyResult_planB (v : Verification) (seq : List ClassRecord) :
    (s.applyResult v seq).planB = s.planB := by
  simp only [State.applyResult, State.timerOrReport, State.evalPermits_planB, State.raiseIf_planB]
  split <;> simp
@[simp] theorem State.applyResult_planCurrent (v : Verification) (seq : List ClassRecord) :
    (s.applyResult v seq).planCurrent = s.planCurrent := by
  simp only [State.applyResult, State.timerOrReport, State.evalPermits_planCurrent, State.raiseIf_planCurrent]
  split <;> simp
@[simp] theorem State.applyResult_enroll (v : Verification) (seq : List ClassRecord) :
    (s.applyResult v seq).enroll = s.enroll := by
  simp only [State.applyResult, State.timerOrReport, State.evalPermits_enroll, State.raiseIf_enroll]
  split <;> simp
@[simp] theorem State.applyResult_buffers (v : Verification) (seq : List ClassRecord) :
    (s.applyResult v seq).buffers = s.buffers := by
  simp only [State.applyResult, State.timerOrReport, State.evalPermits_buffers, State.raiseIf_buffers]
  split <;> simp
@[simp] theorem State.applyResult_queue (v : Verification) (seq : List ClassRecord) :
    (s.applyResult v seq).queue = s.queue := by
  simp only [State.applyResult, State.timerOrReport, State.evalPermits_queue, State.raiseIf_queue]
  split <;> simp
@[simp] theorem State.applyResult_comparing (v : Verification) (seq : List ClassRecord) :
    (s.applyResult v seq).comparing = s.comparing := by
  simp only [State.applyResult, State.timerOrReport, State.evalPermits_comparing, State.raiseIf_comparing]
  split <;> simp
@[simp] theorem State.applyResult_planWriting (v : Verification) (seq : List ClassRecord) :
    (s.applyResult v seq).planWriting = s.planWriting := by
  simp only [State.applyResult, State.timerOrReport, State.evalPermits_planWriting, State.raiseIf_planWriting]
  split <;> simp
@[simp] theorem State.applyResult_planWaits (v : Verification) (seq : List ClassRecord) :
    (s.applyResult v seq).planWaits = s.planWaits := by
  simp only [State.applyResult, State.timerOrReport, State.evalPermits_planWaits, State.raiseIf_planWaits]
  split <;> simp
@[simp] theorem State.applyResult_residency (v : Verification) (seq : List ClassRecord) :
    (s.applyResult v seq).residency = s.residency := by
  simp only [State.applyResult, State.timerOrReport, State.evalPermits_residency, State.raiseIf_residency]
  split <;> simp
@[simp] theorem State.applyResult_timebase (v : Verification) (seq : List ClassRecord) :
    (s.applyResult v seq).timebase = s.timebase := by
  simp only [State.applyResult, State.timerOrReport, State.evalPermits_timebase, State.raiseIf_timebase]
  split <;> simp
@[simp] theorem State.applyResult_freeIndex (v : Verification) (seq : List ClassRecord) :
    (s.applyResult v seq).freeIndex = s.freeIndex := by
  simp only [State.applyResult, State.timerOrReport, State.evalPermits_freeIndex, State.raiseIf_freeIndex]
  split <;> simp

end Sys2Proof.Machine
end

