-- ==== Sys2Proof/Laws/Lists.lean ====
section
/-! SUPPORT. What the operations over lists can do: the merge walk (R51), the place of an added entry (R26), the search of
an entry (R37), the check of a part (R64), and the count of held entries under a write of the format table (R8). -/

namespace Sys2Proof.Machine

/-! ## The merge walk -/

/-- A step takes one entry off a list, or one off each. -/
theorem walkStep_length {rs rs' : List RefEntry} {ms ms' : List ManifestEntry} {c : ClassRecord}
    (h : walkStep rs ms = some (c, rs', ms')) : rs'.length + ms'.length < rs.length + ms.length := by
  unfold walkStep at h
  split at h
  · cases h
  · cases h; simp
  · cases h; simp
  · split at h
    · cases h; simp; omega
    · split at h <;> (cases h; simp)

/-- As many steps as both lists hold are a whole walk, whatever is allowed beyond. -/
theorem walk_enough : ∀ (n m : Nat) (rs : List RefEntry) (ms : List ManifestEntry), rs.length + ms.length ≤ n →
    rs.length + ms.length ≤ m → walk n rs ms = walk m rs ms := by
  intro n
  induction n with
  | zero =>
    intro m rs ms hn _
    have hr : rs = [] := List.eq_nil_of_length_eq_zero (by omega)
    have hs : ms = [] := List.eq_nil_of_length_eq_zero (by omega)
    subst hr hs
    cases m <;> rfl
  | succ n ih =>
    intro m rs ms hn hm
    cases m with
    | zero =>
      have hr : rs = [] := List.eq_nil_of_length_eq_zero (by omega)
      have hs : ms = [] := List.eq_nil_of_length_eq_zero (by omega)
      subst hr hs
      rfl
    | succ m =>
      simp only [walk]
      split
      · rfl
      · rename_i h
        have := walkStep_length h
        rw [ih m _ _ (by omega) (by omega)]

/-- A whole walk by its first step. -/
theorem mergeWalk_eq (rs : List RefEntry) (ms : List ManifestEntry) : mergeWalk rs ms =
    match walkStep rs ms with
    | none => []
    | some (c, rs', ms') => c :: mergeWalk rs' ms' := by
  unfold mergeWalk
  cases h : walkStep rs ms with
  | none => cases hn : rs.length + ms.length <;> simp [walk, h]
  | some x =>
    obtain ⟨c, rs', ms'⟩ := x
    have hl := walkStep_length h
    obtain ⟨n, hn⟩ : ∃ n, rs.length + ms.length = n + 1 := ⟨rs.length + ms.length - 1, by omega⟩
    rw [hn]
    simp only [walk, h]
    rw [walk_enough n (rs'.length + ms'.length) rs' ms' (by omega) (by omega)]

@[simp] theorem mergeWalk_nil_nil : mergeWalk [] [] = [] := rfl

@[simp] theorem mergeWalk_cons_nil (r : RefEntry) (rs : List RefEntry) :
    mergeWalk (r :: rs) [] = refOnlyRecord r :: mergeWalk rs [] := by rw [mergeWalk_eq]; rfl

@[simp] theorem mergeWalk_nil_cons (m : ManifestEntry) (ms : List ManifestEntry) :
    mergeWalk [] (m :: ms) = extraRecord m :: mergeWalk [] ms := by rw [mergeWalk_eq]; rfl

theorem mergeWalk_cons_cons (r : RefEntry) (rs : List RefEntry) (m : ManifestEntry) (ms : List ManifestEntry) :
    mergeWalk (r :: rs) (m :: ms) =
      if r.id = m.id then bothRecord r m :: mergeWalk rs ms
      else if r.id < m.id then refOnlyRecord r :: mergeWalk rs (m :: ms)
      else extraRecord m :: mergeWalk (r :: rs) ms := by
  rw [mergeWalk_eq]
  simp only [walkStep]
  by_cases he : r.id = m.id
  · simp [he]
  · by_cases hl : r.id < m.id <;> simp [he, hl]

/-! ## The place of an entry -/

/-- The entry stands before the first one with a higher block id. -/
theorem insertEntry_place (e : RefEntry) (xs : List RefEntry) : ∃ before after, xs = before ++ after ∧
    insertEntry e xs = before ++ e :: after ∧ (∀ x ∈ before, x.id ≤ e.id) ∧ ∀ x ∈ after.head?, e.id < x.id := by
  induction xs with
  | nil => exact ⟨[], [], rfl, rfl, by simp, by simp⟩
  | cons x xs ih =>
    unfold insertEntry
    by_cases h : e.id < x.id
    · exact ⟨[], x :: xs, rfl, by simp [h], by simp, by simpa using h⟩
    · obtain ⟨before, after, hs, hi, hb, ha⟩ := ih
      refine ⟨x :: before, after, by rw [hs]; rfl, by simp [h, hi], fun y hy => ?_, ha⟩
      rcases List.mem_cons.1 hy with rfl | hy
      · exact BitVec.not_lt.1 h
      · exact hb y hy

@[simp] theorem insertEntry_length (e : RefEntry) (xs : List RefEntry) : (insertEntry e xs).length = xs.length + 1 := by
  obtain ⟨before, after, hs, hi, -, -⟩ := insertEntry_place e xs
  rw [hi, hs]
  simp
  omega

/-- The members of the list after an entry was added. -/
@[simp] theorem mem_insertEntry (e y : RefEntry) (xs : List RefEntry) : y ∈ insertEntry e xs ↔ y = e ∨ y ∈ xs := by
  obtain ⟨before, after, hs, hi, -, -⟩ := insertEntry_place e xs
  rw [hi, hs]
  simp only [List.mem_append, List.mem_cons]
  tauto

/-- Ascending order is kept when the block id is new. -/
theorem insertEntry_ascending (e : RefEntry) (xs : List RefEntry) (h : xs.Pairwise (fun a b => a.id < b.id))
    (hn : ∀ x ∈ xs, x.id ≠ e.id) : (insertEntry e xs).Pairwise (fun a b => a.id < b.id) := by
  induction xs with
  | nil => exact List.pairwise_singleton _ _
  | cons x xs ih =>
    obtain ⟨hx, hxs⟩ := List.pairwise_cons.1 h
    unfold insertEntry
    split
    · rename_i hlt
      refine List.pairwise_cons.2 ⟨fun y hy => ?_, h⟩
      rcases List.mem_cons.1 hy with rfl | hy
      · exact hlt
      · exact BitVec.lt_trans hlt (hx y hy)
    · rename_i hge
      refine List.pairwise_cons.2 ⟨fun y hy => ?_, ih hxs fun y hy => hn y (List.mem_cons_of_mem _ hy)⟩
      rcases (mem_insertEntry e y xs).1 hy with rfl | hy
      · exact BitVec.lt_of_le_ne (BitVec.not_lt.1 hge) (hn x (List.mem_cons_self ..))
      · exact hx y hy

/-! ## The search of an entry -/

/-- The first entry with the block id, with the block id of the one after it. -/
theorem findEntry_first (id : Word16) (before : List RefEntry) (e : RefEntry) (after : List RefEntry)
    (h : ∀ x ∈ before, x.id ≠ id) (he : e.id = id) :
    findEntry id (before ++ e :: after) = some (e, (after.head?.map RefEntry.id).getD 0) := by
  induction before with
  | nil => simp [findEntry, he]
  | cons x xs ih =>
    simp only [List.cons_append, findEntry, if_neg (h x (List.mem_cons_self ..))]
    exact ih fun y hy => h y (List.mem_cons_of_mem _ hy)

/-- No entry is found where none has the block id. -/
theorem findEntry_none (id : Word16) (xs : List RefEntry) (h : ∀ x ∈ xs, x.id ≠ id) : findEntry id xs = none := by
  induction xs with
  | nil => rfl
  | cons x xs ih =>
    simp only [findEntry, if_neg (h x (List.mem_cons_self ..))]
    exact ih fun y hy => h y (List.mem_cons_of_mem _ hy)

/-! ## The check of a part -/

/-- An accepted part is its entries, with block ids rising strictly from above the one before. -/
theorem checkPart_ok {prev : Word16} {pos : Nat} {xs : List (Option ManifestEntry)} {es : List ManifestEntry}
    (h : checkPart prev pos xs = .ok es) : xs = es.map some ∧ (∀ e ∈ es, e.id ≠ 0 ∧ prev < e.id) ∧
      es.Pairwise (fun a b => a.id < b.id) := by
  induction xs generalizing prev pos es with
  | nil => cases h; simp
  | cons x xs ih =>
    cases x with
    | none => cases h
    | some e =>
      simp only [checkPart] at h
      split at h
      · cases h
      · rename_i h0
        split at h
        · cases h
        · rename_i hlt
          have hp : prev < e.id := BitVec.not_le.1 hlt
          split at h
          · rename_i es' hr
            cases h
            obtain ⟨hx, hall, hs⟩ := ih hr
            refine ⟨by rw [hx]; rfl, fun y hy => ?_, List.pairwise_cons.2 ⟨fun y hy => (hall y hy).2, hs⟩⟩
            rcases List.mem_cons.1 hy with rfl | hy
            · exact ⟨h0, hp⟩
            · exact ⟨(hall y hy).1, BitVec.lt_trans hp (hall y hy).2⟩
          · cases h

/-! ## Held entries -/

/-- A sum over all format numbers under a change at one of them. -/
theorem sum_update (xs : List FormatNo) (hx : xs.Nodup) (n : FormatNo) (hn : n ∈ xs) (f g : FormatNo → Nat)
    (h : ∀ m, m ≠ n → f m = g m) : (xs.map f).sum + g n = (xs.map g).sum + f n := by
  induction xs with
  | nil => cases hn
  | cons x xs ih =>
    obtain ⟨hnot, hx⟩ := List.nodup_cons.1 hx
    by_cases hxn : x = n
    · subst hxn
      have : xs.map f = xs.map g := List.map_congr_left fun m hm => h m fun e => hnot (e ▸ hm)
      simp only [List.map_cons, List.sum_cons, this]
      omega
    · have := ih hx ((List.mem_cons.1 hn).resolve_left fun e => hxn e.symm)
      have hfx := h x hxn
      simp only [List.map_cons, List.sum_cons, hfx]
      omega

/-- A write of one record changes the held entries by that record's. -/
theorem State.heldEntries_setFmt (s : State) (n : FormatNo) (r : FormatRecord) (hn : n ≠ 0) :
    (s.setFmt n r).heldEntries + (s.fmt n).entryCount = s.heldEntries + r.entryCount := by
  have key := sum_update (List.finRange 32) (List.nodup_finRange 32) n (List.mem_finRange n)
    (fun m => ((s.setFmt n r).fmt m).entryCount) (fun m => (s.fmt m).entryCount) fun m hm => by
      simp only [State.setFmt, State.fmt, if_neg hn]
      by_cases h0 : m = 0
      · simp [h0]
      · have : (s.formats.set n r)[m] = s.formats[m] := by
          apply Vector.getElem_set_ne
          exact fun e => hm (Fin.ext e.symm)
        simp [h0, this]
  have own : (s.setFmt n r).fmt n = r := by
    simp [State.setFmt, State.fmt, hn]
  simp only [own] at key
  exact key

end Sys2Proof.Machine
end

