-- ==== Sys2Proof/Laws/PerInstr.lean ====
section
/-! SUPPORT. The family `Framed`, per command: a well-formed command that is a frame is the command its frame spells
(R148, R163). Events have no frame. -/

namespace Sys2Proof.Laws.Framed

open Sys2Proof.Machine

/-- A well-formed command is read back from the link, KIND and payload of its frame. -/
def Statement (i : Instr) : Prop :=
  ∀ (l : LinkId) (kind : Byte) (p : List Byte), wf i = true → i.frame? = some (l, kind, p) → commandOf l kind p = i

theorem powerOn (stepsDone : Nat) (eraseFails : List FormatNo) : Statement (.powerOn stepsDone eraseFails) := by
  intro _ _ _ _ h
  cases h

theorem pinReset (stepsDone : Nat) : Statement (.pinReset stepsDone) := by
  intro _ _ _ _ h
  cases h

theorem pinResetRelease (eraseFails : List FormatNo) : Statement (.pinResetRelease eraseFails) := by
  intro _ _ _ _ h
  cases h

theorem scanEnd (failA failB : Bool) : Statement (.scanEnd failA failB) := by
  intro _ _ _ _ h
  cases h

theorem linkBreak (link : LinkId) : Statement (.linkBreak link) := by
  intro _ _ _ _ h
  cases h

theorem frameGapTimeout (link : LinkId) : Statement (.frameGapTimeout link) := by
  intro _ _ _ _ h
  cases h

theorem crcMismatch (link : LinkId) : Statement (.crcMismatch link) := by
  intro _ _ _ _ h
  cases h

theorem unknown (link : LinkId) (kind : Byte) (payload : List Byte) : Statement (.unknown link kind payload) := by
  intro _ _ _ hw h
  simp only [Instr.frame?, Option.some.injEq, Prod.mk.injEq] at h
  obtain ⟨rfl, rfl, rfl⟩ := h
  have hk : kindOf kind = none := by simp [wf, kindUnknown] at hw; exact hw.1.1.2
  simp [commandOf, hk]

theorem transmitComplete (link : LinkId) : Statement (.transmitComplete link) := by
  intro _ _ _ _ h
  cases h

theorem ident (link : LinkId) (payload : List Byte) : Statement (.ident link payload) := by
  intro _ _ _ _ h
  simp only [Instr.frame?, Instr.request?, Option.map_some, Option.some.injEq, Prod.mk.injEq] at h
  obtain ⟨rfl, rfl, rfl⟩ := h
  rfl

theorem statusRead (link : LinkId) (payload : List Byte) : Statement (.statusRead link payload) := by
  intro _ _ _ _ h
  simp only [Instr.frame?, Instr.request?, Option.map_some, Option.some.injEq, Prod.mk.injEq] at h
  obtain ⟨rfl, rfl, rfl⟩ := h
  rfl

theorem slotRead (link : LinkId) (payload : List Byte) : Statement (.slotRead link payload) := by
  intro _ _ _ _ h
  simp only [Instr.frame?, Instr.request?, Option.map_some, Option.some.injEq, Prod.mk.injEq] at h
  obtain ⟨rfl, rfl, rfl⟩ := h
  rfl

theorem manifestBegin (link : LinkId) (payload : List Byte) : Statement (.manifestBegin link payload) := by
  intro _ _ _ _ h
  simp only [Instr.frame?, Instr.request?, Option.map_some, Option.some.injEq, Prod.mk.injEq] at h
  obtain ⟨rfl, rfl, rfl⟩ := h
  rfl

theorem manifestPart (link : LinkId) (payload : List Byte) : Statement (.manifestPart link payload) := by
  intro _ _ _ _ h
  simp only [Instr.frame?, Instr.request?, Option.map_some, Option.some.injEq, Prod.mk.injEq] at h
  obtain ⟨rfl, rfl, rfl⟩ := h
  rfl

theorem manifestEnd (link : LinkId) (payload : List Byte) : Statement (.manifestEnd link payload) := by
  intro _ _ _ _ h
  simp only [Instr.frame?, Instr.request?, Option.map_some, Option.some.injEq, Prod.mk.injEq] at h
  obtain ⟨rfl, rfl, rfl⟩ := h
  rfl

theorem comparisonEnd : Statement (.comparisonEnd) := by
  intro _ _ _ _ h
  cases h

theorem presentationTimerExpiry (slot : SlotId) : Statement (.presentationTimerExpiry slot) := by
  intro _ _ _ _ h
  cases h

theorem settleTimerExpiry : Statement (.settleTimerExpiry) := by
  intro _ _ _ _ h
  cases h

theorem idleTimerExpiry : Statement (.idleTimerExpiry) := by
  intro _ _ _ _ h
  cases h

theorem residencyTick : Statement (.residencyTick) := by
  intro _ _ _ _ h
  cases h

theorem lineChange (link : LinkId) (payload : List Byte) : Statement (.lineChange link payload) := by
  intro _ _ _ _ h
  simp only [Instr.frame?, Instr.request?, Option.map_some, Option.some.injEq, Prod.mk.injEq] at h
  obtain ⟨rfl, rfl, rfl⟩ := h
  rfl

theorem lineExtend (link : LinkId) (payload : List Byte) : Statement (.lineExtend link payload) := by
  intro _ _ _ _ h
  simp only [Instr.frame?, Instr.request?, Option.map_some, Option.some.injEq, Prod.mk.injEq] at h
  obtain ⟨rfl, rfl, rfl⟩ := h
  rfl

theorem lineAbandon (link : LinkId) (payload : List Byte) : Statement (.lineAbandon link payload) := by
  intro _ _ _ _ h
  simp only [Instr.frame?, Instr.request?, Option.map_some, Option.some.injEq, Prod.mk.injEq] at h
  obtain ⟨rfl, rfl, rfl⟩ := h
  rfl

theorem serviceEnter (link : LinkId) (payload : List Byte) : Statement (.serviceEnter link payload) := by
  intro _ _ _ _ h
  simp only [Instr.frame?, Instr.request?, Option.map_some, Option.some.injEq, Prod.mk.injEq] at h
  obtain ⟨rfl, rfl, rfl⟩ := h
  rfl

theorem serviceLeave (link : LinkId) (payload : List Byte) : Statement (.serviceLeave link payload) := by
  intro _ _ _ _ h
  simp only [Instr.frame?, Instr.request?, Option.map_some, Option.some.injEq, Prod.mk.injEq] at h
  obtain ⟨rfl, rfl, rfl⟩ := h
  rfl

theorem lineRestart (link : LinkId) (payload : List Byte) : Statement (.lineRestart link payload) := by
  intro _ _ _ _ h
  simp only [Instr.frame?, Instr.request?, Option.map_some, Option.some.injEq, Prod.mk.injEq] at h
  obtain ⟨rfl, rfl, rfl⟩ := h
  rfl

theorem attentionClear (link : LinkId) (payload : List Byte) : Statement (.attentionClear link payload) := by
  intro _ _ _ _ h
  simp only [Instr.frame?, Instr.request?, Option.map_some, Option.some.injEq, Prod.mk.injEq] at h
  obtain ⟨rfl, rfl, rfl⟩ := h
  rfl

theorem formatOpen (link : LinkId) (payload : List Byte) : Statement (.formatOpen link payload) := by
  intro _ _ _ _ h
  simp only [Instr.frame?, Instr.request?, Option.map_some, Option.some.injEq, Prod.mk.injEq] at h
  obtain ⟨rfl, rfl, rfl⟩ := h
  rfl

theorem entryAdd (link : LinkId) (payload : List Byte) : Statement (.entryAdd link payload) := by
  intro _ _ _ _ h
  simp only [Instr.frame?, Instr.request?, Option.map_some, Option.some.injEq, Prod.mk.injEq] at h
  obtain ⟨rfl, rfl, rfl⟩ := h
  rfl

theorem entryDrop (link : LinkId) (payload : List Byte) : Statement (.entryDrop link payload) := by
  intro _ _ _ _ h
  simp only [Instr.frame?, Instr.request?, Option.map_some, Option.some.injEq, Prod.mk.injEq] at h
  obtain ⟨rfl, rfl, rfl⟩ := h
  rfl

theorem formatSet (link : LinkId) (payload : List Byte) : Statement (.formatSet link payload) := by
  intro _ _ _ _ h
  simp only [Instr.frame?, Instr.request?, Option.map_some, Option.some.injEq, Prod.mk.injEq] at h
  obtain ⟨rfl, rfl, rfl⟩ := h
  rfl

theorem formatSeal (link : LinkId) (payload : List Byte) : Statement (.formatSeal link payload) := by
  intro _ _ _ _ h
  simp only [Instr.frame?, Instr.request?, Option.map_some, Option.some.injEq, Prod.mk.injEq] at h
  obtain ⟨rfl, rfl, rfl⟩ := h
  rfl

theorem sealCompletion (outcome : SealOutcome) : Statement (.sealCompletion outcome) := by
  intro _ _ _ _ h
  cases h

theorem formatDiscard (link : LinkId) (payload : List Byte) : Statement (.formatDiscard link payload) := by
  intro _ _ _ _ h
  simp only [Instr.frame?, Instr.request?, Option.map_some, Option.some.injEq, Prod.mk.injEq] at h
  obtain ⟨rfl, rfl, rfl⟩ := h
  rfl

theorem formatRetire (link : LinkId) (payload : List Byte) : Statement (.formatRetire link payload) := by
  intro _ _ _ _ h
  simp only [Instr.frame?, Instr.request?, Option.map_some, Option.some.injEq, Prod.mk.injEq] at h
  obtain ⟨rfl, rfl, rfl⟩ := h
  rfl

theorem retireEraseCompletion (outcome : RetireOutcome) : Statement (.retireEraseCompletion outcome) := by
  intro _ _ _ _ h
  cases h

theorem formatRead (link : LinkId) (payload : List Byte) : Statement (.formatRead link payload) := by
  intro _ _ _ _ h
  simp only [Instr.frame?, Instr.request?, Option.map_some, Option.some.injEq, Prod.mk.injEq] at h
  obtain ⟨rfl, rfl, rfl⟩ := h
  rfl

theorem entryRead (link : LinkId) (payload : List Byte) : Statement (.entryRead link payload) := by
  intro _ _ _ _ h
  simp only [Instr.frame?, Instr.request?, Option.map_some, Option.some.injEq, Prod.mk.injEq] at h
  obtain ⟨rfl, rfl, rfl⟩ := h
  rfl

theorem planWrite (link : LinkId) (payload : List Byte) : Statement (.planWrite link payload) := by
  intro _ _ _ _ h
  simp only [Instr.frame?, Instr.request?, Option.map_some, Option.some.injEq, Prod.mk.injEq] at h
  obtain ⟨rfl, rfl, rfl⟩ := h
  rfl

theorem planWriteCompletion (outcome : PlanOutcome) : Statement (.planWriteCompletion outcome) := by
  intro _ _ _ _ h
  cases h

theorem planRead (link : LinkId) (payload : List Byte) : Statement (.planRead link payload) := by
  intro _ _ _ _ h
  simp only [Instr.frame?, Instr.request?, Option.map_some, Option.some.injEq, Prod.mk.injEq] at h
  obtain ⟨rfl, rfl, rfl⟩ := h
  rfl

theorem monitorSet (link : LinkId) (payload : List Byte) : Statement (.monitorSet link payload) := by
  intro _ _ _ _ h
  simp only [Instr.frame?, Instr.request?, Option.map_some, Option.some.injEq, Prod.mk.injEq] at h
  obtain ⟨rfl, rfl, rfl⟩ := h
  rfl

theorem tripClear (link : LinkId) (payload : List Byte) : Statement (.tripClear link payload) := by
  intro _ _ _ _ h
  simp only [Instr.frame?, Instr.request?, Option.map_some, Option.some.injEq, Prod.mk.injEq] at h
  obtain ⟨rfl, rfl, rfl⟩ := h
  rfl

theorem monitorRead (link : LinkId) (payload : List Byte) : Statement (.monitorRead link payload) := by
  intro _ _ _ _ h
  simp only [Instr.frame?, Instr.request?, Option.map_some, Option.some.injEq, Prod.mk.injEq] at h
  obtain ⟨rfl, rfl, rfl⟩ := h
  rfl

theorem characterReceived (link : LinkId) (char : Byte) (stopBitHigh : Bool) : Statement (.characterReceived link char stopBitHigh) := by
  intro _ _ _ _ h
  cases h

theorem linkLineReturnsHigh (link : LinkId) : Statement (.linkLineReturnsHigh link) := by
  intro _ _ _ _ h
  cases h

theorem rateStrapChange (rate1 rate0 : Bool) : Statement (.rateStrapChange rate1 rate0) := by
  intro _ _ _ _ h
  cases h

end Sys2Proof.Laws.Framed
end

