-- ==== Sys2Proof/Laws/Serve.lean ====
section
/-! SUPPORT. What the service of a request can do: one lemma for each way `State.serve` goes, and what `State.respond`,
`Link.transmitted` and `Link.refuseBusy` leave. Later proofs cite these and do not unfold the service. -/

namespace Sys2Proof.Machine

variable {s t : State} {l : LinkId} {k : ReqKind} {p payload : List Byte} {own : State → State × Answer} {r : Result}

/-! ## One link -/

/-- An awaited response is on LTXn when the transmitter is free, else it waits (R146, R147). -/
theorem Link.respond_eq {x : Link} {kind : Byte} (h : x.service = some { kind := kind, progress := .awaiting }) :
    x.respond r payload = x.answering kind r payload := by
  cases x with
  | mk rx gap low service slot tx =>
    subst h
    cases tx <;> simp [Link.respond, Link.answering, Link.arbitrate]

/-- A response nobody awaits changes nothing (R145). -/
theorem Link.respond_lost {x : Link} (h : x.service = none) : x.respond r payload = x := by
  simp [Link.respond, h]

/-- A response leaves the receiver, the line level and the BUSY slot of a sound link. -/
theorem Link.answering_rx (x : Link) (kind : Byte) : (x.answering kind r payload).rx = x.rx := by
  unfold Link.answering; split <;> rfl

/-! ## The path of a request -/

/-- Without the scan ended, or on a line low after a break, a frame is discarded (R144, R145). -/
theorem State.serve_discards (h : s.receives l = false) : s.serve l k p own = s.received l := by
  have h' : (s.frameDone l).receives l = false := by simpa [State.receives] using h
  unfold State.serve State.take
  rw [if_neg (by simp [h'])]
  rfl

/-- A link that attends receives. -/
theorem State.Attends.receives (h : s.Attends l) : s.receives l = true := by
  simp [State.receives, h.1, h.2.1]

/-- A request taken by an attending link is in service and goes through its checks (R146, R148). -/
theorem State.serve_attends (h : s.Attends l) :
    s.serve l k p own = State.judge l k p own (s.serving l (kindCode k)) := by
  have h1 : (s.frameDone l).receives l = true := by simpa [State.receives] using h.receives
  have h2 : ((s.frameDone l).link l).service = none := by simpa using h.2.2
  simp only [State.serve, State.take, h1, if_true, h2, Option.isSome_none]
  simp [State.frameDone, State.serving, Link.begin]

/-- The checks read nothing that the service of the request changes. -/
@[simp] theorem State.screen_serving (kind : Byte) : (s.serving l kind).screen l k p = s.screen l k p := rfl

/-- The link after a request is in service. -/
@[simp] theorem State.serving_link (kind : Byte) : (s.serving l kind).link l =
    { s.link l with rx := .hunt, gap := 0, service := some { kind := kind, progress := .awaiting } } := by
  simp [State.serving]

/-- The response to a request in service, nothing else changed. -/
theorem State.respond_serving (kind : Byte) : (s.serving l kind).respond l r payload = s.answered l kind r payload := by
  simp only [State.respond, State.serving_link]
  rw [Link.respond_eq (kind := kind) rfl]
  simp only [State.serving, State.answered, State.setLink_setLink]
  congr 1

/-- A request that one of checks 3 to 6 refuses is answered with that code (R148). -/
theorem State.serve_refused (h : s.Attends l) (hs : s.screen l k p = some r) :
    s.serve l k p own = s.answered l (kindCode k) r [] := by
  rw [State.serve_attends h, State.judge, State.screen_serving, hs]
  exact State.respond_serving _

/-- A request that passes is the owning block's, whose immediate answer is the response (R146, R148). -/
theorem State.serve_replies (h : s.Attends l) (hs : s.screen l k p = none)
    (ho : own (s.serving l (kindCode k)) = (t, .reply r payload)) : s.serve l k p own = t.respond l r payload := by
  rw [State.serve_attends h, State.judge, State.screen_serving, hs, ho]

/-- A long request that is accepted waits for its operation (R146). -/
theorem State.serve_later (h : s.Attends l) (hs : s.screen l k p = none)
    (ho : own (s.serving l (kindCode k)) = (t, .later)) : s.serve l k p own = t := by
  rw [State.serve_attends h, State.judge, State.screen_serving, hs, ho]

/-- A request on a link that serves another changes the link alone (R147). -/
theorem State.serve_busy (h : s.receives l = true) (hb : (s.link l).service.isSome = true) :
    s.serve l k p own = s.setLink l ({ s.link l with rx := .hunt, gap := 0 }.refuseBusy (kindCode k)) := by
  have h1 : (s.frameDone l).receives l = true := by simpa [State.receives] using h
  have h2 : ((s.frameDone l).link l).service.isSome = true := by simpa using hb
  unfold State.serve State.take
  simp only
  rw [if_pos h1, if_pos h2, State.frameDone_link]
  simp [State.frameDone]

/-- What holds of every change of one link, and is kept by the owning block, is kept by the service of a request. -/
theorem State.serve_keeps {P : State → Prop} (link : ∀ s m x, P s → P (s.setLink m x))
    (block : ∀ s, P s → s.stage = .running → s.screen l k p = none → P (own s).1) (h : P s) : P (s.serve l k p own) := by
  unfold State.serve State.take
  simp only
  split
  · rename_i hr
    split
    · exact link _ _ _ (link _ _ _ h)
    · unfold State.judge
      split
      · exact link _ _ _ (link _ _ _ (link _ _ _ h))
      · rename_i hs
        have hrun : s.stage = .running := by
          have : (s.frameDone l).stage = s.stage := rfl
          simp [State.receives] at hr; exact hr.1
        have hp := block (((s.frameDone l).setLink l (((s.frameDone l).link l).begin (kindCode k))))
          (link _ _ _ (link _ _ _ h)) hrun hs
        split
        · exact link _ _ _ hp
        · exact hp
  · exact link _ _ _ h

/-- The same for the response of a long operation. -/
theorem State.respondTo_keeps {P : State → Prop} (link : ∀ s m x, P s → P (s.setLink m x)) (c : Option LinkId)
    (h : P s) : P (s.respondTo c r payload) := by
  unfold State.respondTo; split
  · exact link _ _ _ h
  · exact h

/-- The response of a long operation goes to the link that awaits it, or is lost with it (R12). -/
theorem State.respondTo_eq {c : Option LinkId} {kind : Byte} (h : s.AwaitsClaim c kind) :
    s.respondTo c r payload = s.concluded c kind r payload := by
  cases c with
  | none => rfl
  | some l => simp only [State.respondTo, State.respond, State.concluded, State.completed, Link.respond_eq (h l rfl)]

end Sys2Proof.Machine
end

