-- ==== Sys2Proof/Laws/Store.lean ====
section
/-! SUPPORT. What the storage steps of the program engine (R13 to R15), the start-up scan (R18), the comparator's
operations (R71, R75 to R78) and a new plan (R152) can change: for each, the state it leaves with all else as it was; and
the ranges that plans and stored fields are in. -/

namespace Sys2Proof.Machine

variable (s : State)

/-! ## Storage -/

/-- A stop of the engine changes nonvolatile storage alone, and uses up at most free values. -/
theorem State.stopEngine_frame (n : Nat) : s.stopEngine n =
    { s with
      areas := (s.stopEngine n).areas
      genTable := (s.stopEngine n).genTable
      genTableGood := (s.stopEngine n).genTableGood
      planA := (s.stopEngine n).planA
      planB := (s.stopEngine n).planB
      freeIndex := (s.stopEngine n).freeIndex } := by
  unfold State.stopEngine
  split
  · unfold State.sealSteps State.setArea State.writeGenTable
    split <;> first | rfl | (split <;> rfl)
  · unfold State.retireSteps State.setArea
    split <;> first | rfl | (split <;> rfl)
  · unfold State.planSteps
    split
    · rfl
    · cases s.planTarget <;> rfl
    · cases s.planTarget <;> rfl
    · cases s.planTarget <;> rfl
    · cases s.planTarget <;> rfl
  · rfl

/-- All a visit of the scan can do (R18): nothing for a blank area; a sealed record that fits is restored; any other is
erased, unless its erase fails, and attention STORE is set. -/
theorem State.scanArea_cases (fails : List FormatNo) (f : FormatNo) :
    (s.areas[f] = .blank ∧ s.scanArea fails f = s) ∨
    (∃ r, s.areas[f] = .sealed r ∧ r.restored.entryCount ≤ s.poolFree ∧ s.scanArea fails f =
      { (s.setFmt f r.restored).setGen f r.generation with poolFree := s.poolFree - r.restored.entryCount }) ∨
    (s.areas[f] ≠ .blank ∧ (∀ r, s.areas[f] = .sealed r → s.poolFree < r.restored.entryCount) ∧
      s.scanArea fails f = (if f ∈ fails then s else s.setArea f .blank).raise .store) := by
  cases h : s.areas[f] with
  | blank => exact .inl ⟨rfl, by simp only [State.scanArea, h]⟩
  | sealed r =>
    by_cases hr : r.restored.entryCount ≤ s.poolFree
    · exact .inr (.inl ⟨r, rfl, hr, by simp only [State.scanArea, h, if_pos hr]⟩)
    · exact .inr (.inr ⟨by simp, fun r' e => by cases e; omega,
        by simp only [State.scanArea, h, if_neg hr, List.contains_iff_mem]⟩)
  | written => exact .inr (.inr ⟨by simp, by simp, by simp only [State.scanArea, h, List.contains_iff_mem]⟩)
  | sealedBad => exact .inr (.inr ⟨by simp, by simp, by simp only [State.scanArea, h, List.contains_iff_mem]⟩)
  | retired => exact .inr (.inr ⟨by simp, by simp, by simp only [State.scanArea, h, List.contains_iff_mem]⟩)

/-- A visit of the scan to an EMPTY record keeps the sum of free and held entries (R8). -/
theorem State.scanArea_entries (fails : List FormatNo) (f : FormatNo) (hf : f ≠ 0) (h : (s.fmt f).entryCount = 0) :
    (s.scanArea fails f).poolFree + (s.scanArea fails f).heldEntries = s.poolFree + s.heldEntries := by
  have same : ∀ t : State, t.formats = s.formats → t.heldEntries = s.heldEntries := fun t ht => by
    simp only [State.heldEntries, State.fmt, ht]
  rcases s.scanArea_cases fails f with ⟨-, e⟩ | ⟨r, -, hle, e⟩ | ⟨-, -, e⟩
  · rw [e]
  · have key := s.heldEntries_setFmt f r.restored hf
    have hg : ((s.setFmt f r.restored).setGen f r.generation).heldEntries = (s.setFmt f r.restored).heldEntries := by
      simp only [State.heldEntries, State.fmt, State.setGen_formats]
    rw [e]
    change s.poolFree - r.restored.entryCount + ((s.setFmt f r.restored).setGen f r.generation).heldEntries = _
    omega
  · rw [e]
    by_cases hm : f ∈ fails
    · rw [if_pos hm, State.raise_poolFree, same _ (State.raise_formats ..)]
    · rw [if_neg hm, State.raise_poolFree, State.setArea_poolFree, same _ (by rw [State.raise_formats, State.setArea_formats])]

/-! ## The comparator -/

/-- The idle comparator takes the oldest verification; a busy one, or an empty queue, is left alone (R76). -/
theorem State.startComparison_eq : s.startComparison =
    if s.comparing = none then { s with comparing := s.queue.head?, queue := s.queue.tail } else s := by
  unfold State.startComparison
  cases hc : s.comparing with
  | some l => simp
  | none =>
    cases hq : s.queue with
    | nil =>
      rw [if_pos rfl, List.head?_nil, List.tail_nil]
      show s = _
      rw [← hc, ← hq]
    | cons l q => rfl

/-- A break takes its link out of assembler and comparator, and the marker waits for it no more (R71, R78, R110). -/
theorem State.cancelManifest_frame (l : LinkId) : s.cancelManifest l =
    { s with
      buffers := s.buffers.set l .idle
      queue := (s.cancelManifest l).queue
      comparing := (s.cancelManifest l).comparing
      planWaits := (s.cancelManifest l).planWaits } := by
  unfold State.cancelManifest
  cases hb : s.buffers[l] with
  | idle =>
    have : s.buffers.set l .idle = s.buffers := by
      rw [← hb]
      exact Vector.set_getElem_self ..
    simp only [this]
  | assembling d es => rfl
  | verifying v =>
    simp only [State.startComparison_eq]
    repeat' split
    all_goals rfl

/-! ## Limits of a plan and of the stored fields, and the gap of a receiver (R3, R16, R19, R143) -/

/-- The plan check of PLAN-WRITE and of the scan is the limits of R16. -/
theorem planOk_iff (plan : Plan) : planOk plan = true ↔ plan.Legal := by
  simp [planOk, Plan.Legal, List.count_eq_countP, and_assoc]

/-- The plan the scan puts in force is within the limits of R16 (R19). -/
theorem choosePlan_legal (a b : PlanArea) : (choosePlan a.usable? b.usable?).1.Legal := by
  have usable : ∀ {x : PlanArea} {plan : Plan} {turn : Turn}, x.usable? = some (plan, turn) → plan.Legal := by
    intro x plan turn h
    unfold PlanArea.usable? at h
    split at h
    · split at h
      · cases h
        exact (planOk_iff _).1 ‹_›
      · cases h
    all_goals cases h
  unfold choosePlan
  split
  · unfold Plan.Legal
    decide
  · exact usable ‹_›
  · exact usable ‹_›
  · split
    · exact usable ‹a.usable? = _›
    · split
      · exact usable ‹b.usable? = _›
      · exact usable ‹a.usable? = _›

/-- A stored settle window is in the range of R3. -/
theorem storedSettle_range (sent : Nat) : 5 ≤ storedSettle sent ∧ storedSettle sent ≤ 600 ∧ storedSettle sent % 5 = 0 := by
  unfold storedSettle
  omega

/-- A stored presentation interval is in the range of R3. -/
theorem storedInterval_range (b : Byte) : 2 ≤ storedInterval b.toNat ∧ storedInterval b.toNat ≤ 255 := by
  have := b.isLt
  unfold storedInterval
  omega

/-- The gap of a receiver is over the limit in LENGTH and BODY alone (R143). -/
theorem Link.gapOver_iff (x : Link) : x.gapOver = true ↔ x.rx ≠ .hunt ∧ 5 < x.gap := by
  rw [Link.gapOver, Bool.and_eq_true, decide_eq_true_iff]
  cases x.rx <;> simp [Receiver.gapRuns, gapLimit]

end Sys2Proof.Machine
end

