-- ==== Sys2Proof/Tests/Slice0.lean ====
section
/-! SUPPORT. Tests on small states, with expected values from the worked examples and tables of the manual, and for every
statement with hypotheses a state and operands that meet them, clause by clause. -/

namespace Sys2Proof.Tests

open Sys2Proof Sys2Proof.Machine

/-! ## Small states -/

/-- In service in NOFORMAT under a plan with one link of each kind. -/
def up : State :=
  { State.reset with
    stage := .running
    plan := #v[.engineering, .supervisor, .controller 0, .controller 1, .controller 2, .controller 3, .unbound, .unbound] }

/-- Block 40 of section 3.6, case 1. -/
def fill : RefEntry := { id := 40, presence := .required, value := tunableValue 5000 40 60 10 }

/-- A FIXED block. -/
def program : RefEntry := { id := 120, presence := .optional, value := .fixed 0x11 }

/-- A record with two entries for K0. -/
def record (kind : FormatKind) (state : FormatState) : FormatRecord :=
  { FormatRecord.blank with kind := kind, state := state, lists := #v[[fill, program], [], [], [], [], []] }

/-- F7 OPEN, owned by SL0. -/
def opened : State :=
  { up.setFmt 7 (record .production .opened) with
    poolFree := 2046, enroll := some { format := 7, owner := 0, idle := some 1000 } }

/-- F7 SEALING for SL0. -/
def sealing : State :=
  { up.setFmt 7 (record .production .sealing) with
    poolFree := 2046
    enroll := some { format := 7, owner := 0, idle := none }
    engine := some { job := .seal 7, claimant := some 0 } }.setLink 0
      { Link.atReset with service := some { kind := 0x34, progress := .awaiting } }

/-- F7 SEALED PRODUCTION, F9 SEALED SERVICE. -/
def stored : State := (up.setFmt 7 (record .production .sealed)).setFmt 9 (record .service .sealed)

/-- A slot with its timer running. -/
def released (v : Verdict) : Slot := { Slot.atReset with verdict := v, permit := true, timer := some 500 }

/-- A slot whose timer has run out. -/
def due (v : Verdict) : Slot := { released v with timer := some 0 }

/-- RUN under F7 with K0 CLEARED. -/
def running : State := { (stored.setSlot 0 (released .cleared)) with line := .run, active := 7, epoch := 37 }

/-- The context of a changeover to F7 for K0. -/
def context : Changeover :=
  { target := 7, targetGen := 0, origin := 0, originGen := 0, cause := .order, participants := 1, ready := 0,
    extensions := 0 }

/-- CHANGEOVER to F7. -/
def changing : State := { stored with line := .changeover context 5000, epoch := 38 }

/-- STALLED on the way to F7, its extensions used. -/
def stalled : State := { stored with line := .stalled { context with extensions := 3 }, epoch := 38 }

/-- SERVICE under F9, K0 kept, F7 the return format. -/
def serving : State := { stored with line := .service 1 7 0, active := 9, epoch := 40 }

/-- A manifest of the two blocks of F7, the tunable one trimmed. -/
def manifest : List ManifestEntry := [{ id := 40, report := .value 5021 }, { id := 120, report := .check 0x11 }]

/-- The verification of that manifest for K0. -/
def verification (epoch : Word16) : Verification :=
  { slot := 0, manifest := manifest, format := 7, generation := 0, epoch := epoch, lost := none }

/-- SL2 awaits its MANIFEST-END, its verification under comparison. -/
def comparing (epoch : Word16) (s : State) : State :=
  { (s.setBuffer 2 (.verifying (verification epoch))).setLink 2
      { Link.atReset with service := some { kind := 0x12, progress := .awaiting } } with
    comparing := some 2 }

/-- SL2 with an open assembly. -/
def assembling (declared : Nat) (es : List ManifestEntry) (s : State) : State := s.setBuffer 2 (.assembling declared es)

/-- A counter one event from its overflow, counting INBAND of K0. -/
def loaded (a : Action) : Counter :=
  { value := 0xFFFFFF, flag := false, enable := true, events := 0x001, filter := 0x01, threshold := 70, invert := false,
    edge := false, action := a }

/-- Custody frozen by M0. -/
def frozen (s : State) : State :=
  { s with counters := s.counters.set 0 { loaded .freeze with value := 0, flag := true } }

/-- What a command leaves, for fields to be read. -/
def after (i : Instr) (s : State) : State :=
  match exec i s with
  | .next t => t
  | .fault _ => State.reset
  | .refused _ => State.reset

/-- The characters on LTXn. -/
def sent (l : LinkId) (s : State) : List Byte :=
  match (s.link l).tx with
  | some x => x.chars
  | none => []

/-! ## Well-formedness refuses what no command can bring -/

theorem test_payload_too_long : wf (.statusRead 0 (List.replicate 197 0)) = false := by decide +kernel
theorem test_kind_is_known : wf (.unknown 0 0x20 []) = false := by decide
theorem test_five_steps : wf (.pinReset 5) = false := by decide
theorem test_erase_of_f0 : wf (.pinResetRelease [3, 0]) = false := by decide
theorem test_well_formed : wf (.unknown 0 0x43 [1]) = true ∧ wf (.powerOn 4 [31]) = true := by decide
theorem test_no_word_is_a_command : decodeTableWord 0 0 = none := by decide

/-! ## Frames (section 11.8 and the check value of the CRC-16 over the characters 1 to 9) -/

theorem test_crc_check_value :
    crc16 [0x31, 0x32, 0x33, 0x34, 0x35, 0x36, 0x37, 0x38, 0x39] = 0x29B1 := by decide +kernel

/-! ## Bands, classes and scores (section 3.6) -/

theorem test_band_case_1 : tunableValue 5000 40 60 10 = .tunable 5000 40 60 10 20 30 4980 5030 := by decide
theorem test_band_case_2_clamped : tunableValue (-37) 100 7000 25 = .tunable (-37) 100 5000 25 25 25 (-62) (-12) := by
  decide
theorem test_band_case_3 : tunableValue 2147000000 10 5000 0 =
    .tunable 2147000000 10 5000 0 2147000 1073500000 2144853000 2147483647 := by decide
theorem test_band_case_4 : tunableValue (-2147483648) 5000 5000 0 =
    .tunable (-2147483648) 5000 5000 0 1073741824 1073741824 (-2147483648) (-1073741824) := by decide
theorem test_band_case_5 : tunableValue 1000 0 200 0 = .tunable 1000 0 200 0 0 20 1000 1020 := by decide
theorem test_scores_case_1 :
    classifyBoth fill (.value 5000) = (.matched, some 0) ∧ classifyBoth fill (.value 5021) = (.inband, some 70) ∧
    classifyBoth fill (.value 5030) = (.inband, some 100) ∧ classifyBoth fill (.value 5031) = (.offband, some 255) ∧
    classifyBoth fill (.value 4985) = (.inband, some 75) ∧ classifyBoth fill (.value 4979) = (.offband, some 255) := by
  decide
theorem test_fixed_optional_unset_is_altered : classifyBoth program .unset = (.altered, none) := by decide
theorem test_walk : mergeWalk [fill, program] [{ id := 7, report := .unset }, { id := 40, report := .value 4999 }] =
    [{ id := 7, cls := .extra, score := none, origin := .manifestOnly },
     { id := 40, cls := .inband, score := some 5, origin := .both },
     { id := 120, cls := .absent, score := none, origin := .refOnly }] := by decide

/-! ## Enrollment (section 2.12 and the table of R28) -/

theorem test_settle_windows : [60, 42, 3, 598, 0, 65535].map storedSettle = [60, 45, 5, 600, 5, 600] := by decide
theorem test_intervals : [30, 255, 1, 2].map storedInterval = [30, 255, 2, 2] := by decide
theorem test_entry_goes_before : ((after (.entryAdd 0 [7, 0, 0, 9, 0, 0, 0, 0, 0, 0, 0, 0, 0, 1, 0, 0]) opened).fmt 7).lists[0].map
    RefEntry.id = [9, 40, 120] := by decide
theorem test_generation_wraps : nextGen 65535 = 1 ∧ nextGen 0 = 1 := by decide
theorem test_seal_completes : ((after (.sealCompletion .success) sealing).fmt 7).state = .sealed ∧
    (after (.sealCompletion .success) sealing).genOf 7 = 1 ∧ (after (.sealCompletion .success) sealing).enroll = none := by
  decide

/-! ## The line (sections 6.13 and 7.9) and the monitor (section 8.9) -/

theorem test_change_starts : (after (.lineChange 1 [7]) running).epoch = 38 ∧
    (after (.lineChange 1 [7]) running).slots[0].verdict = .pending ∧
    (after (.lineChange 1 [7]) running).slots[0].permit = false ∧
    (after (.lineChange 1 [7]) running).slots[1].verdict = .outside := by decide
theorem test_result_commits : (after .comparisonEnd (comparing 38 changing)).line = .run ∧
    (after .comparisonEnd (comparing 38 changing)).active = 7 ∧
    (after .comparisonEnd (comparing 38 changing)).slots[0].verdict = .trimmed ∧
    (after .comparisonEnd (comparing 38 changing)).slots[0].permit = true ∧
    (after .comparisonEnd (comparing 38 changing)).flagged .commit = true := by decide
theorem test_drop_trip_holds_the_permit :
    (after .comparisonEnd { comparing 37 running with counters := running.counters.set 1 (loaded .drop) }).slots[0].permit
      = false := by decide
theorem test_expiry_makes_stale :
    (after (.presentationTimerExpiry 0) (running.setSlot 0 (due .cleared))).slots[0].verdict = .stale ∧
    (after (.presentationTimerExpiry 0) (running.setSlot 0 (due .cleared))).slots[0].permit = true := by decide
theorem test_service_parks : (after (.serviceEnter 1 [9, 1, 0xFF]) running).slots[1].verdict = .parked ∧
    (after (.serviceEnter 1 [9, 1, 0xFF]) running).line = .service 1 7 0 := by decide

/-! ## The event taken first decides (R22, R89; the settle window of R106) -/

theorem test_result_before_the_expiry : (after (.presentationTimerExpiry 0)
    (after .comparisonEnd (comparing 37 (running.setSlot 0 (due .cleared))))).slots[0].verdict = .trimmed := by decide
theorem test_entry_before_the_expiry : (after .idleTimerExpiry
    (after (.entryDrop 0 [7, 0, 0, 40])
      { opened with enroll := some { format := 7, owner := 0, idle := some 0 } })).enroll =
        some { format := 7, owner := 0, idle := some 120000 } := by decide
theorem test_refused_entry_before_the_expiry : (after .idleTimerExpiry
    (after (.entryDrop 0 [7, 0, 0, 41])
      { opened with enroll := some { format := 7, owner := 0, idle := some 0 } })).enroll = none := by decide
theorem test_extension_before_the_expiry : (after .settleTimerExpiry
    (after (.lineExtend 1 []) { changing with line := .changeover context 0 })).line =
      .changeover { context with extensions := 1 } 60000 := by decide

/-! ## Manifests (section 4.7) -/

theorem test_part_position : (after (.manifestPart 2
      ([3] ++ [0, 90, 3] ++ List.replicate 8 0 ++ [0, 110, 3] ++ List.replicate 8 0 ++ [0, 105, 3] ++ List.replicate 8 0))
      (assembling 20 [{ id := 80, report := .unset }] running)).buffers[2] = .idle ∧
    (sent 2 (after (.manifestPart 2
      ([3] ++ [0, 90, 3] ++ List.replicate 8 0 ++ [0, 110, 3] ++ List.replicate 8 0 ++ [0, 105, 3] ++ List.replicate 8 0))
      (assembling 20 [{ id := 80, report := .unset }] running))).take 5 = [0xC3, 5, 0x91, 0x14, 3] := by decide

/-! ## Links (section 9.12) -/

theorem test_busy_while_awaiting : (sent 2 (after (.statusRead 2 []) (comparing 37 running))).take 4 = [0xC3, 0, 0x82, 0x10] ∧
    ((after (.statusRead 2 []) (comparing 37 running)).link 2).service =
      some { kind := 0x12, progress := .awaiting } := by decide
theorem test_unbound_ident : (sent 6 (after (.ident 6 []) up)).take 11 =
    [0xC3, 7, 0x81, 0, 0x47, 0x04, 0x16, 0x42, 6, 0, 0xFF] := by decide
theorem test_break_keeps_the_role : (after (.linkBreak 2) (comparing 37 running)).comparing = none ∧
    (after (.linkBreak 2) (comparing 37 running)).plan[2] = .controller 0 := by decide

/-! ## Witnesses: states and operands that meet the hypotheses of the statements, clause by clause -/

/-- SL0 broke while its line is low. -/
def broken : State := up.setLink 0 { Link.atReset with lineLow := true }

/-- SL1 with a request in service. -/
def waiting (p : Progress) (busy : Option Byte) (tx : Option Transmission) : State :=
  up.setLink 1 { Link.atReset with service := some { kind := 0x20, progress := p }, busySlot := busy, tx := tx }

/-- A BUSY answer on LTXn, and a response. -/
def busySent : Transmission := { isBusy := true, chars := [] }
def responseSent : Transmission := { isBusy := false, chars := [] }

/-- A response that waits. -/
def done20 : Response := { kind := 0x20, result := .done, payload := [] }

/-- SL3's receiver. -/
def receiving (rx : Receiver) : State := up.setLink 3 { Link.atReset with rx := rx }

/-- RESET_N held over a storage with one sealed record of `n` entries at F7, one of one entry at F9, an unfinished one at
F31. -/
def shelved (n : Nat) : State :=
  { State.reset with
    stage := .held
    areas := ((State.reset.areas.set 7 (.sealed (stocked n))).set 9 (.sealed (stocked 1))).set 31 .written }
where
  stocked (n : Nat) : SealedRecord :=
    { kind := .production, tag := [], settle := 60, interval := 30, generation := 3,
      lists := #v[List.replicate n fill, [], [], [], [], []] }

/-- The start-up scan over two plan areas. -/
def scanning (a b : PlanArea) : State := { State.reset with planA := a, planB := b }

/-- A plan within the limits, in the form of section 11.7. -/
def planBytes : List Byte := [1, 9, 2, 0xFF, 3, 0, 3, 5, 0, 7, 0, 8, 0, 0, 1, 0xFF]

/-- That plan. -/
def planned : Plan :=
  #v[.engineering, .supervisor, .controller 0, .controller 5, .unbound, .unbound, .unbound, .engineering]

/-- F7's seal in flight without its link, its generation the last before the wrap. -/
def wrapping : State :=
  { sealing with gens := sealing.gens.set 7 65535, engine := some { job := .seal 7, claimant := none } }

/-- F9 on its way out, for SL0. -/
def retiring : State :=
  { up with engine := some { job := .retireErase 9, claimant := some 0 } }.setLink 0
    { Link.atReset with service := some { kind := 0x36, progress := .awaiting } }

/-- A plan write in flight for SL0. -/
def planning : State :=
  { up with engine := some { job := .planWrite planned, claimant := some 0 }, planWriting := true }.setLink 0
    { Link.atReset with service := some { kind := 0x39, progress := .awaiting } }

/-- F7 OPEN with `n` entries for K1. -/
def crowded (n : Nat) : State :=
  opened.setFmt 7
    { record .production .opened with
      lists := #v[[], (List.range n).map (fun j => { fill with id := BitVec.ofNat 16 (j + 1) }), [], [], [], []] }

/-- The payload of ENTRY-ADD for F7. -/
def adding (slot : Byte) (id : Word16) (kind presence : Byte) (rest : List Byte) : List Byte :=
  [7, slot] ++ bytes2 id ++ [kind, presence] ++ rest

/-- Eight and ten bytes of zeros. -/
def zeros : List Byte := List.replicate 10 0

/-- The payload of FORMAT-SET for F7. -/
def setting (length : Byte) (tag : List Byte) (settle : Nat) (interval : Byte) : List Byte :=
  [7, length] ++ tag ++ List.replicate (12 - tag.length) 0 ++ num2 settle ++ [interval]

/-- Eleven bytes of a manifest entry. -/
def entryBytes (id : Word16) (kind : Byte) : List Byte := bytes2 id ++ [kind] ++ List.replicate 8 0

theorem witness_step_and_idle :
    ({ up with pending := [.residencyTick] } : State).pending = .residencyTick :: [] ∧ up.pending = [] ∧
    up.timebase = 0 ∧ ({ up with timebase := 999 } : State).timebase = 999 ∧
    changing.pending = [] ∧ changing.line = .changeover context 5000 ∧ running.pending = [] ∧
    (∀ c m, running.line ≠ .changeover c m) := by
  refine ⟨rfl, rfl, rfl, rfl, rfl, rfl, rfl, fun _ _ h => by cases h⟩

theorem witness_resets : up.stage ≠ .held ∧ (shelved 1).stage = .held ∧ up.engine = none ∧
    (7 : FormatNo) ≠ 0 ∧ sealing.engine = some { job := .seal 7, claimant := some 0 } ∧ sealing.genOf 7 ≠ 65535 ∧
    wrapping.genOf 7 = 65535 ∧ wrapping.engine = some { job := .seal 7, claimant := none } ∧
    retiring.engine = some { job := .retireErase 9, claimant := some 0 } ∧
    planning.engine = some { job := .planWrite planned, claimant := some 0 } ∧ planning.planCurrent = none ∧
    (∃ s : State, s.engine = planning.engine ∧ s.planCurrent = some .a ∧ s.planA = .valid planned .three) ∧
    ∃ s : State, s.engine = planning.engine ∧ s.planCurrent = some .b ∧ s.planB = .valid planned .one := by
  refine ⟨by decide, by decide, rfl, by decide, rfl, by decide, by decide, rfl, rfl, rfl, rfl,
    ⟨{ planning with planCurrent := some .a, planA := .valid planned .three }, rfl, rfl, rfl⟩,
    ⟨{ planning with planCurrent := some .b, planB := .valid planned .one }, rfl, rfl, rfl⟩⟩

theorem witness_scan_restores : (shelved 2).stage = .held ∧ (7 : FormatNo) ≠ 0 ∧
    (shelved 2).areas[7] = .sealed (shelved.stocked 2) ∧
    ((shelved.stocked 2).lists.toList.map List.length).sum + entriesBelow (after (.pinResetRelease []) (shelved 2)) 7 ≤
      2048 := by decide +kernel

theorem witness_scan_erases : (shelved 2).stage = .held ∧ (31 : FormatNo) ≠ 0 ∧
    ∀ r, (shelved 2).areas[(31 : FormatNo)] = .sealed r →
      2048 < (r.lists.toList.map List.length).sum + entriesBelow (after (.pinResetRelease []) (shelved 2)) 31 := by
  refine ⟨rfl, by decide, fun r h => ?_⟩
  have : (shelved 2).areas[(31 : FormatNo)] = .written := rfl
  rw [this] at h
  cases h

theorem witness_scan_ends : (scanning .blank .written).stage = .scanning ∧
    (∀ p n, ¬ (scanning .blank .written).planA.Usable p n) ∧ (∀ p n, ¬ (scanning .blank .written).planB.Usable p n) ∧
    (scanning (.valid planned .three) .validBad).planA.Usable planned .three ∧
    (∀ q m, ¬ (scanning (.valid planned .three) .validBad).planB.Usable q m) ∧
    (scanning .blank (.valid planned .one)).planB.Usable planned .one ∧
    (scanning (.valid planned .three) (.valid planned .one)).planA.Usable planned .three ∧
    (scanning (.valid planned .three) (.valid planned .one)).planB.Usable planned .one := by
  have legal : planned.Legal := by unfold Plan.Legal; decide
  refine ⟨rfl, fun _ _ h => (by cases h.1), fun _ _ h => (by cases h.1), ⟨rfl, legal⟩, fun _ _ h => (by cases h.1),
    ⟨rfl, legal⟩, ⟨rfl, legal⟩, ⟨rfl, legal⟩⟩

theorem witness_frames_read_back : wf (.lineChange 1 [7]) = true ∧
    (Instr.lineChange 1 [7]).frame? = some (1, 0x20, [7]) ∧ wf (.unknown 0 0x99 []) = true ∧
    (Instr.unknown 0 0x99 []).frame? = some (0, 0x99, []) ∧ running.stage ≠ .held ∧ (running.link 1).lineLow = false ∧
    (running.link 1).rx = .hunt ∧ (running.link 0).lineLow = false ∧ (running.link 0).rx = .hunt := by decide

/-- A frame under reception on SL3 with a gap of `n` ms. -/
def pausing (n : Nat) : State := up.setLink 3 { Link.atReset with rx := .length, gap := n }

theorem witness_gap : ((pausing 6).link 3).rx ≠ .hunt ∧ 5 < ((pausing 6).link 3).gap ∧ ((pausing 5).link 3).gap ≤ 5 ∧
    (up.link 3).rx = .hunt ∧ ((after (.frameGapTimeout 3) (pausing 6)).link 3).rx = .hunt ∧
    ((after (.frameGapTimeout 3) (pausing 5)).link 3).rx = .length := by decide

/-- A response whose KIND fits, one whose KIND does not, and a byte of a payload. -/
theorem witness_response_frame : done20.payload.length ≤ 255 ∧ done20.kind.toNat < 0x80 ∧ ¬ (0x99 : Byte).toNat < 0x80 ∧
    0 < ([7] : List Byte).length := by decide

/-- Section 11.8: the answer to LINE-EXTEND with one extension used and a settle window of 45 s. -/
theorem test_response_of_section_11_8 : (Response.frame { kind := 0x21, result := .done, payload := [1, 0, 0x2D] }).take 7 =
    [0xC3, 3, 0xA1, 0, 1, 0, 0x2D] := by decide

theorem witness_receiver : (shelved 1).stage = .held ∧ (broken.link 0).lineLow = true ∧ up.stage ≠ .held ∧
    (up.link 3).lineLow = false ∧ (up.link 3).rx = .hunt ∧
    ((receiving .length).link 3).rx = .length ∧ ((196 : Byte).toNat ≤ 196 ∧ 196 < (197 : Byte).toNat) ∧
    ((receiving (.body 0 [1])).link 3).rx = .body 0 [1] ∧ ([1] : List Byte).length + 1 < 0 + 3 ∧
    ((receiving (.body 1 [0x20, 7, 0])).link 3).rx = .body 1 (0x20 :: [7] ++ [0]) ∧
    crc16 (BitVec.ofNat 8 1 :: 0x20 :: [7]) ≠ (0 : Byte) ++ (0 : Byte) ∧
    (crc16 (BitVec.ofNat 8 1 :: 0x20 :: [7])) =
      (crc16 (BitVec.ofNat 8 1 :: 0x20 :: [7])).extractLsb' 8 8 ++ (crc16 (BitVec.ofNat 8 1 :: 0x20 :: [7])).extractLsb' 0 8 := by
  decide +kernel

theorem witness_no_service : (Instr.lineRestart 1 []).frame? = some (1, 0x25, []) ∧ State.reset.stage ≠ .running ∧
    (Instr.ident 0 []).frame? = some (0, 0x01, []) ∧ (broken.link 0).lineLow = true ∧ up.stage = .running ∧
    ((waiting .awaiting (some 3) none).link 1).service.isSome = true ∧
    ((waiting .awaiting (some 3) none).link 1).busySlot.isSome = true ∧
    ((waiting .sending none (some responseSent)).link 1).busySlot = none ∧
    ((waiting .sending none (some responseSent)).link 1).tx.isSome = true ∧
    ((waiting .awaiting none none).link 1).service.isSome = true ∧ ((waiting .awaiting none none).link 1).tx = none ∧
    ∀ k r, ((waiting .awaiting none none).link 1).service ≠ some { kind := k, progress := .ready r } := by
  refine ⟨rfl, by decide, rfl, rfl, rfl, rfl, rfl, rfl, rfl, rfl, rfl, fun _ _ h => ?_⟩
  have : ((waiting .awaiting none none).link 1).service = some { kind := 0x20, progress := .awaiting } := rfl
  rw [this] at h
  cases h

theorem witness_transmitter : (up.link 1).tx = none ∧
    ((waiting (.ready done20) none (some busySent)).link 1).tx = some { isBusy := true, chars := [] } ∧
    ((waiting (.ready done20) none (some busySent)).link 1).service = some { kind := 0x20, progress := .ready done20 } ∧
    ((waiting .awaiting (some 9) (some busySent)).link 1).tx = some { isBusy := true, chars := [] } ∧
    ((waiting .awaiting (some 9) (some busySent)).link 1).busySlot = some 9 ∧
    ((waiting .sending (some 9) (some responseSent)).link 1).tx = some { isBusy := false, chars := [] } ∧
    ((waiting .sending none (some responseSent)).link 1).busySlot = none := by decide

theorem witness_break : (broken.link 0).lineLow = true ∧ ((comparing 37 running).link 2).lineLow = false ∧
    (comparing 37 running).buffers[2] = .verifying (verification 37) ∧ (comparing 37 running).comparing = some 2 ∧
    (∃ s : State, (s.link 2).lineLow = false ∧ s.buffers[2] = .verifying (verification 37) ∧ s.comparing = some 3) ∧
    (sealing.link 0).lineLow = false ∧ sealing.engine = some { job := .seal 7, claimant := some 0 } ∧ up.engine = none := by
  refine ⟨rfl, rfl, rfl, rfl, ⟨{ comparing 37 running with comparing := some 3 }, rfl, rfl, rfl⟩, rfl, rfl, rfl⟩

theorem witness_length_and_role : up.Attends 6 ∧ (Instr.ident 6 [1]).request? = some (6, .ident, [1]) ∧
    lengthOk .ident [1] = false ∧ (Instr.statusRead 6 []).request? = some (6, .statusRead, []) ∧
    lengthOk .statusRead [] = true ∧ roleMay up.plan[6] .statusRead [] = false := by unfold State.Attends; decide

theorem witness_phase_check : up.Attends 1 ∧ (Instr.lineExtend 1 []).request? = some (1, .lineExtend, []) ∧
    lengthOk .lineExtend [] = true ∧ roleMay up.plan[1] .lineExtend [] = true ∧
    phaseAdmits up.line up.plan[1] .lineExtend = false := by unfold State.Attends; decide

theorem witness_freeze_check : (frozen up).Attends 1 ∧ (Instr.lineChange 1 [40]).request? = some (1, .lineChange, [40]) ∧
    lengthOk .lineChange [40] = true ∧ roleMay (frozen up).plan[1] .lineChange [40] = true ∧
    phaseAdmits (frozen up).line (frozen up).plan[1] .lineChange = true ∧ (frozen up).frozen = true ∧
    freezeRefuses .lineChange [40] = true := by unfold State.Attends; decide

theorem witness_unknown_kind : kindOf 0x99 = none ∧ kindOf 0x43 = none ∧ kindOf 0 = none := by decide

theorem witness_taken_request : up.Attends 0 ∧ (Instr.planRead 0 []).request? = some (0, .planRead, []) ∧
    ReqKind.planRead ∉ [.manifestPart, .manifestEnd, .entryRead] := by unfold State.Attends; decide

theorem witness_reads : up.Attends 0 ∧ up.plan[0] = .engineering ∧ up.plan[0] ≠ .unbound ∧ up.enroll = none ∧
    changing.Attends 0 ∧ changing.plan[0] ≠ .unbound ∧ changing.line = .changeover context 5000 ∧
    changing.line.changeover? = some context ∧ stalled.Attends 0 ∧
    stalled.line = .stalled { context with extensions := 3 } ∧ serving.Attends 0 ∧ serving.line = .service 1 7 0 ∧
    (∀ kept ret g, up.line ≠ .service kept ret g) ∧ opened.Attends 0 ∧
    opened.enroll = some { format := 7, owner := 0, idle := some 1000 } := by
  have a : up.Attends 0 ∧ changing.Attends 0 ∧ stalled.Attends 0 ∧ serving.Attends 0 ∧ opened.Attends 0 := by
    unfold State.Attends; decide
  exact ⟨a.1, rfl, by decide, rfl, a.2.1, by decide, rfl, rfl, a.2.2.1, rfl, a.2.2.2.1, rfl, fun _ _ _ h => (by cases h),
    a.2.2.2.2, rfl⟩

theorem witness_slot_read : running.Attends 0 ∧ running.plan[0] = .engineering ∧ 5 < (byteAt [6, 0, 0] 0).toNat ∧
    (byteAt [5, 0, 0] 0).toNat = (5 : SlotId).val ∧ running.Attends 2 ∧ running.plan[2] = .controller 0 ∧
    (byteAt [0, 0, 0] 0).toNat = (0 : SlotId).val ∧ running.slots[0].timer = some 500 ∧ running.slots[1].timer = none ∧
    running.slots[0].summary = none ∧ running.slots[0].memory = none ∧
    (∃ s : State, s.Attends 0 ∧ s.plan[0] = .engineering ∧
      s.slots[0].summary = some (outsideSummary 7 1) ∧
      s.slots[0].memory = some { format := 7, generation := 1, records := [(40, .matched)] }) := by
  refine ⟨?_, rfl, by decide, by decide, ?_, rfl, by decide, rfl, rfl, rfl, rfl,
    ⟨running.setSlot 0
      { running.slots[0] with
        summary := some (outsideSummary 7 1)
        memory := some { format := 7, generation := 1, records := [(40, .matched)] } }, ?_, rfl, rfl, rfl⟩⟩ <;>
  (unfold State.Attends; decide)

theorem witness_format_reads : opened.Attends 0 ∧ opened.plan[0] = .engineering ∧ 31 < (byteAt [32] 0).toNat ∧
    (byteAt [31] 0).toNat = (31 : FormatNo).val ∧ (byteAt [7] 0).toNat = (7 : FormatNo).val ∧
    opened.enroll = some { format := 7, owner := 0, idle := some 1000 } ∧ (opened.fmt 7).state = .opened ∧
    (opened.fmt 7).tag.length ≤ 12 ∧ up.Attends 0 ∧ up.plan[0] = .engineering ∧ up.enroll = none ∧
    5 < (byteAt [7, 6, 0, 40] 1).toNat ∧ half [7, 5, 0, 0] 2 = 0 ∧ half [7, 0, 0, 40] 2 ≠ 0 ∧
    (opened.fmt 7).lists[0] = [] ++ fill :: [program] ∧ fill.id = half [7, 0, 0, 40] 2 ∧
    (opened.fmt 7).lists[0] = [fill] ++ program :: [] ∧ program.id = half [7, 0, 0, 120] 2 ∧
    (∀ e ∈ (opened.fmt 7).lists[0], e.id ≠ half [7, 0, 0, 41] 2) := by unfold State.Attends; decide

theorem witness_format_open : up.Hears 0 .engineering ∧ up.frozen = false ∧ byteAt [0, 1] 0 = 0 ∧
    31 < (byteAt [32, 0] 0).toNat ∧ 1 < (byteAt [7, 2] 1).toNat ∧ (byteAt [31, 1] 0).toNat = (31 : FormatNo).val ∧
    byteAt [31, 1] 1 = FormatKind.service.code ∧ up.enroll = none ∧ up.planPending = false ∧
    (up.fmt 31).state = .empty ∧ opened.Hears 0 .engineering ∧ opened.frozen = false ∧ opened.enroll.isSome = true ∧
    stored.Hears 0 .engineering ∧ stored.frozen = false ∧ stored.enroll = none ∧ stored.planPending = false ∧
    (stored.fmt 7).state ≠ .empty := by unfold State.Hears State.Attends; decide

theorem witness_context_checks : opened.Hears 0 .engineering ∧ opened.frozen = false ∧
    (Instr.entryDrop 0 [32, 0, 0, 1]).request? = some (0, .entryDrop, [32, 0, 0, 1]) ∧
    lengthOk .entryDrop [32, 0, 0, 1] = true ∧ 31 < (byteAt [32, 0, 0, 1] 0).toNat ∧
    (Instr.formatSeal 0 [0]).request? = some (0, .formatSeal, [0]) ∧ lengthOk .formatSeal [0] = true ∧
    byteAt [0] 0 = 0 ∧ (byteAt [31] 0).toNat = (31 : FormatNo).val ∧
    (∀ c, opened.enroll = some c → c.format ≠ 31 ∨ c.owner ≠ 0) ∧
    ({ sealing with links := up.links } : State).Hears 0 .engineering ∧
    ({ sealing with links := up.links } : State).frozen = false ∧
    ({ sealing with links := up.links } : State).enroll = some { format := 7, owner := 0, idle := none } ∧
    (sealing.fmt 7).state = .sealing ∧ (Instr.formatDiscard 0 [7]).request? = some (0, .formatDiscard, [7]) ∧
    lengthOk .formatDiscard [7] = true := by
  have a : opened.Hears 0 .engineering ∧ ({ sealing with links := up.links } : State).Hears 0 .engineering := by
    unfold State.Hears State.Attends; decide
  refine ⟨a.1, by decide, rfl, by decide, by decide, rfl, by decide, by decide, by decide,
    fun c h => ?_, a.2, by decide, rfl, by decide, rfl, by decide⟩
  cases h
  decide

/-- FORMAT-SET and FORMAT-DISCARD of a context that is not theirs, under the freeze. -/
theorem witness_context_checks_frozen : (frozen opened).Hears 0 .engineering ∧ (frozen opened).frozen = true ∧
    ReqKind.formatSet ∈ [ReqKind.formatSet, .formatDiscard] ∧ ReqKind.formatDiscard ∈ [ReqKind.formatSet, .formatDiscard] ∧
    (Instr.formatDiscard 0 [31]).request? = some (0, .formatDiscard, [31]) ∧ lengthOk .formatDiscard [31] = true ∧
    (byteAt [31] 0).toNat = (31 : FormatNo).val ∧
    (∀ c, (frozen opened).enroll = some c → c.format ≠ 31 ∨ c.owner ≠ 0) := by
  refine ⟨by unfold State.Hears State.Attends; decide, by decide, by decide, by decide, rfl, by decide, by decide,
    fun c h => ?_⟩
  cases h
  decide

theorem owns_opened (s : State) (h : s.Hears 0 .engineering ∧ (s.fmt 7).state ≠ .sealing)
    (e : s.enroll = some { format := 7, owner := 0, idle := some 1000 }) : ownsOpen s 0 7 :=
  ⟨h.1, by decide, h.2, _, e⟩

theorem witness_owner : ownsOpen opened 0 7 ∧ opened.frozen = false := by
  refine ⟨owns_opened opened ?_ rfl, by decide⟩
  unfold State.Hears State.Attends
  decide

theorem witness_entry_add : ownsOpen (crowded 255) 0 7 ∧ (crowded 255).frozen = false ∧
    (adding 1 256 1 1 (int4 (-37) ++ num2 5001 ++ num2 5000 ++ num2 25)).length = 16 ∧
    (byteAt (adding 1 256 1 1 []) 1).toNat = (1 : SlotId).val ∧ half (adding 1 256 1 1 []) 2 ≠ 0 ∧
    byteAt (adding 1 256 1 1 []) 5 = Presence.optional.code ∧
    (∀ e ∈ ((crowded 255).fmt 7).lists[1], e.id ≠ half (adding 1 256 1 1 []) 2) ∧
    ((crowded 255).fmt 7).lists[1].length < 256 ∧ 0 < (crowded 255).poolFree := by
  refine ⟨owns_opened (crowded 255) ?_ rfl, ?_⟩
  · unfold State.Hears State.Attends
    decide +kernel
  · decide +kernel

theorem witness_entry_add_refused : ownsOpen (crowded 256) 0 7 ∧ (crowded 256).frozen = false ∧
    (adding 6 1 0 0 zeros).length = 16 ∧ (byteAt (adding 6 1 0 0 zeros) 0).toNat = (7 : FormatNo).val ∧
    5 < (byteAt (adding 6 1 0 0 zeros) 1).toNat ∧ half (adding 5 0 0 0 zeros) 2 = 0 ∧
    1 < (byteAt (adding 5 1 2 0 zeros) 4).toNat ∧ 1 < (byteAt (adding 5 1 1 2 zeros) 5).toNat ∧
    (byteAt (adding 1 9 1 1 zeros) 4).toNat ≤ 1 ∧ (byteAt (adding 1 9 1 1 zeros) 5).toNat ≤ 1 ∧
    (∃ e ∈ ((crowded 256).fmt 7).lists[1], e.id = half (adding 1 256 1 1 zeros) 2) ∧
    (∀ e ∈ ((crowded 256).fmt 7).lists[1], e.id ≠ half (adding 1 257 1 1 zeros) 2) ∧
    256 ≤ ((crowded 256).fmt 7).lists[1].length ∧ ({ opened with poolFree := 0 } : State).poolFree = 0 := by
  refine ⟨owns_opened (crowded 256) ?_ rfl, ?_⟩
  · unfold State.Hears State.Attends
    decide +kernel
  · decide +kernel

theorem witness_entry_drop : 5 < (byteAt [7, 6, 0, 40] 1).toNat ∧ half [7, 5, 0, 0] 2 = 0 ∧
    (byteAt [7, 0, 0, 120] 1).toNat = (0 : SlotId).val ∧ (∀ e ∈ (opened.fmt 7).lists[0], e.id ≠ half [7, 0, 0, 41] 2) ∧
    (opened.fmt 7).lists[0] = [fill] ++ program :: [] ∧ (∀ x ∈ [fill], x.id ≠ half [7, 0, 0, 120] 2) ∧
    program.id = half [7, 0, 0, 120] 2 := by decide

theorem witness_format_set : (setting 13 [] 60 30).length = 17 ∧ 12 < (byteAt (setting 13 [] 60 30) 1).toNat ∧
    (byteAt (setting 2 [0x7E, 0x7F] 60 30) (2 + 1)).toNat = 0x7F ∧ (byteAt (setting 2 [0x7E, 0x20] 42 1) 1).toNat ≤ 12 ∧
    [0x7E, 0x20] = ((setting 2 [0x7E, 0x20] 42 1).drop 2).take (byteAt (setting 2 [0x7E, 0x20] 42 1) 1).toNat ∧
    (∀ b ∈ ([0x7E, 0x20] : List Byte), 0x20 ≤ b.toNat ∧ b.toNat ≤ 0x7E) ∧
    42 = (half (setting 2 [0x7E, 0x20] 42 1) 14).toNat ∧ 65535 = (half (setting 0 [] 65535 2) 14).toNat := by decide

theorem witness_format_seal : ownsOpen (crowded 0) 0 7 ∧ (crowded 0).frozen = false ∧
    (∀ k : SlotId, ((crowded 0).fmt 7).lists[k] = []) ∧ (∃ k : SlotId, (opened.fmt 7).lists[k] ≠ []) ∧ opened.engine = none ∧
    (byteAt [7] 0).toNat = (7 : FormatNo).val ∧
    ∃ s : State, ownsOpen s 0 7 ∧ s.frozen = false ∧ (∃ k : SlotId, (s.fmt 7).lists[k] ≠ []) ∧ s.engine.isSome = true := by
  have h : (crowded 0).Hears 0 .engineering ∧ ((crowded 0).fmt 7).state ≠ .sealing := by
    unfold State.Hears State.Attends; decide
  have g : ({ opened with engine := some { job := .retireErase 9, claimant := none } } : State).Hears 0 .engineering ∧
      (opened.fmt 7).state ≠ .sealing := by unfold State.Hears State.Attends; decide
  refine ⟨owns_opened (crowded 0) h rfl, by decide, by decide, by decide, rfl, by decide,
    { opened with engine := some { job := .retireErase 9, claimant := none } }, owns_opened _ g rfl, by decide, by decide,
    rfl⟩

theorem witness_completions : sealing.engine = some { job := .seal 7, claimant := some 0 } ∧
    sealing.AwaitsClaim (some 0) 0x34 ∧ wrapping.engine = some { job := .seal 7, claimant := none } ∧
    wrapping.AwaitsClaim none 0x34 ∧ (1 : Word16) = (if wrapping.genOf 7 = 65535 then 1 else wrapping.genOf 7 + 1) ∧
    (∀ f c, up.engine ≠ some { job := .seal f, claimant := c }) ∧
    retiring.engine = some { job := .retireErase 9, claimant := some 0 } ∧ retiring.AwaitsClaim (some 0) 0x36 ∧
    (∀ f c, up.engine ≠ some { job := .retireErase f, claimant := c }) ∧
    planning.engine = some { job := .planWrite planned, claimant := some 0 } ∧ planning.AwaitsClaim (some 0) 0x39 ∧
    (∀ plan c, up.engine ≠ some { job := .planWrite plan, claimant := c }) := by
  refine ⟨rfl, fun l h => ?_, rfl, fun l h => (by cases h), by decide, fun _ _ h => (by cases h), rfl, fun l h => ?_,
    fun _ _ h => (by cases h), rfl, fun l h => ?_, fun _ _ h => by cases h⟩ <;> (cases h; rfl)

theorem witness_discards : (byteAt [7] 0).toNat = (7 : FormatNo).val ∧
    (∃ s : State, s.enroll = some { format := 7, owner := 0, idle := some 0 }) ∧
    (∀ c, up.enroll = some c → c.idle ≠ some 0) ∧ (∀ c, sealing.enroll = some c → c.idle ≠ some 0) ∧
    (∀ c, opened.enroll = some c → c.idle ≠ some 0) := by
  refine ⟨by decide, ⟨{ opened with enroll := some { format := 7, owner := 0, idle := some 0 } }, rfl⟩,
    fun c h => (by cases h), fun c h => ?_, fun c h => ?_⟩ <;> (cases h; decide)

theorem witness_format_retire : stored.Hears 0 .engineering ∧ stored.frozen = false ∧ byteAt [0] 0 = 0 ∧
    31 < (byteAt [32] 0).toNat ∧ (byteAt [31] 0).toNat = (31 : FormatNo).val ∧ (stored.fmt 31).state ≠ .sealed ∧
    running.Hears 0 .engineering ∧ running.frozen = false ∧ (running.fmt 7).state = .sealed ∧ running.active = 7 ∧
    changing.line.changeover? = some context ∧ context.target = 7 ∧ serving.line = .service 1 7 0 ∧
    (stored.fmt 7).state = .sealed ∧ stored.active ≠ 7 ∧ stored.line = .noFormat ∧ stored.engine = none ∧
    ({ stored with engine := some { job := .retireErase 9, claimant := none } } : State).engine.isSome = true := by
  unfold State.Hears State.Attends; decide

/-- A verification of a format on its way out: compared, queued, and of another format. -/
theorem witness_retired_under_verification : ∃ s : State, s.Hears 0 .engineering ∧ s.frozen = false ∧
    (s.fmt 7).state = .sealed ∧ s.active ≠ 7 ∧ s.line = .noFormat ∧ s.engine = none ∧
    s.buffers[2] = .verifying (verification 37) ∧ s.comparing = some 2 ∧ (verification 37).format = 7 ∧
    (verification 37).lost = none ∧ s.buffers[3] = .verifying (verification 36) ∧ s.comparing ≠ some 3 ∧
    s.buffers[4] = .verifying { verification 36 with format := 9 } := by
  refine ⟨((comparing 37 stored).setBuffer 3 (.verifying (verification 36))).setBuffer 4
    (.verifying { verification 36 with format := 9 }), ?_⟩
  unfold State.Hears State.Attends
  decide

theorem witness_plans : plans planBytes planned ∧ planned.Legal := by
  refine ⟨fun l => ?_, by unfold Plan.Legal; decide⟩
  match l with
  | 0 => exact .inr (.inl (by decide))
  | 1 => exact .inr (.inr (.inl (by decide)))
  | 2 => exact .inr (.inr (.inr ⟨0, by decide⟩))
  | 3 => exact .inr (.inr (.inr ⟨5, by decide⟩))
  | 4 => exact .inl (by decide)
  | 5 => exact .inl (by decide)
  | 6 => exact .inl (by decide)
  | 7 => exact .inr (.inl (by decide))

theorem witness_plan_write : up.Hears 0 .engineering ∧ up.line = .noFormat ∧ up.frozen = false ∧ planBytes.length = 16 ∧
    up.enroll = none ∧ up.engine = none ∧ opened.Hears 0 .engineering ∧ opened.line = .noFormat ∧ opened.frozen = false ∧
    opened.enroll.isSome = true := by unfold State.Hears State.Attends; decide

theorem witness_undefined_plan : ∀ plan, plans (4 :: planBytes.drop 1) plan → ¬ plan.Legal := by
  intro plan h
  rcases h 0 with ⟨h, _⟩ | ⟨h, _⟩ | ⟨h, _⟩ | ⟨_, h, _⟩ <;> exact absurd h (by decide)

theorem witness_monitor_set : up.Hears 0 .engineering ∧ 3 < (byteAt [4, 0, 0, 0, 0, 0, 0, 0, 0, 0, 0, 0, 0] 0).toNat ∧
    (frozen up).Hears 0 .engineering ∧ (frozen up).counters[0].flag = true ∧ up.counters[3].flag = false ∧
    1 < (byteAt [3, 2] 1).toNat ∧ 4095 < (half [3, 0, 0x10, 0] 2).toNat ∧ 127 < (byteAt [3, 0, 0, 0, 128] 4).toNat ∧
    2 < (byteAt [3, 0, 0, 0, 0, 0, 0, 0, 3] 8).toNat ∧
    16777215 < (quad [3, 0, 0, 0, 0, 0, 0, 0, 0, 1, 0, 0, 0] 9).toNat ∧
    (byteAt [3, 1, 0x0F, 0xFF, 127, 255, 1, 1, 2, 0, 255, 255, 255] 0).toNat = (3 : CounterNo).val ∧
    (half [3, 1, 0x0F, 0xFF, 127, 255, 1, 1, 2, 0, 255, 255, 255] 2).toNat ≤ 4095 ∧
    (byteAt [3, 1, 0x0F, 0xFF, 127, 255, 1, 1, 2, 0, 255, 255, 255] 4).toNat ≤ 127 ∧
    (byteAt [3, 1, 0x0F, 0xFF, 127, 255, 1, 1, 2, 0, 255, 255, 255] 8).toNat ≤ 2 ∧
    (quad [3, 1, 0x0F, 0xFF, 127, 255, 1, 1, 2, 0, 255, 255, 255] 9).toNat ≤ 16777215 := by
  unfold State.Hears State.Attends; decide

theorem witness_trip_clear : (frozen up).Hears 0 .engineering ∧ 3 < (byteAt [4, 0, 0, 0, 0] 0).toNat ∧
    16777215 < (quad [0, 1, 0, 0, 0] 1).toNat ∧ (byteAt [0, 0, 255, 255, 255] 0).toNat = (0 : CounterNo).val ∧
    (quad [0, 0, 255, 255, 255] 1).toNat ≤ 16777215 := by unfold State.Hears State.Attends; decide

/-- An event that counts and wraps its counter, one that does not count, and one under the freeze. -/
theorem witness_events : (MonitorEvent.block 0 40 .inband (some 70) none).CountsFor
      { running with counters := running.counters.set 3 (loaded .drop) } 3 ∧
    (loaded .drop).value = 0xFFFFFF ∧
    ¬ (MonitorEvent.block 0 40 .inband (some 69) none).CountsFor
      { running with counters := running.counters.set 3 (loaded .drop) } 3 ∧
    ¬ (MonitorEvent.block 0 40 .inband (some 70) none).CountsFor
      (frozen { running with counters := running.counters.set 3 (loaded .drop) }) 3 := by
  refine ⟨⟨by decide, by decide, ⟨0, .inl ⟨rfl, rfl⟩, by decide⟩, by decide, fun _ => .inl (by decide),
    fun h => by cases h⟩, rfl, fun h => ?_, fun h => ?_⟩
  · rcases h.2.2.2.2.1 (.inl rfl) with ⟨_, h⟩ | ⟨h, _⟩
    · exact absurd h (by decide)
    · cases h
  · exact absurd h.2.1 (by decide)

theorem witness_phases : up.line = .noFormat ∧ running.line = .run ∧ changing.line = .changeover context 5000 ∧
    stalled.line = .stalled { context with extensions := 3 } ∧ serving.line = .service 1 7 0 ∧
    (0 : Fin 5) = 0 ∧ (running.line = .run → (4 : Fin 5) ≠ 1) := by decide

theorem witness_supervisor : up.Hears 1 .supervisor ∧ 511 < (half [2, 0] 0).toNat ∧ (half [1, 255] 0).toNat ≤ 511 := by
  unfold State.Hears State.Attends; decide

theorem witness_timers : running.slots[1].timer = none ∧ running.slots[0].timer = some 500 ∧
    (running.setSlot 0 (due .cleared)).slots[0].timer = some 0 ∧
    (running.setSlot 0 (due .cleared)).slots[0].verdict = .cleared ∧
    (running.setSlot 0 (due .trimmed)).slots[0].verdict = .trimmed ∧
    (running.setSlot 0 (due .stale)).slots[0].timer = some 0 ∧
    (running.setSlot 0 (due .stale)).slots[0].verdict = .stale := by decide

theorem witness_line_change : running.Hears 1 .supervisor ∧ running.line = .run ∧ running.frozen = false ∧
    31 < (byteAt [32] 0).toNat ∧ (byteAt [7] 0).toNat = (7 : FormatNo).val ∧ (byteAt [31] 0).toNat = (31 : FormatNo).val ∧
    (running.fmt 31).state ≠ .sealed ∧ (running.fmt 9).kind = .service ∧ running.planPending = false ∧
    (running.fmt 7).state = .sealed ∧ (running.fmt 7).kind = .production ∧
    (∀ k : SlotId, (1 : SlotSet).getLsbD k.val = true ↔ (running.fmt 7).lists[k] ≠ []) ∧
    ({ running with planWaits := 0x80 } : State).planPending = true ∧ up.Hears 1 .supervisor ∧ up.line = .noFormat := by
  unfold State.Hears State.Attends; decide

theorem witness_settle_and_extension :
    ({ changing with line := .changeover context 0 } : State).line = .changeover context 0 ∧
    (∀ c, changing.line ≠ .changeover c 0) ∧ (∀ c, running.line ≠ .changeover c 0) ∧
    stalled.Hears 1 .supervisor ∧ stalled.line.changeover? = some { context with extensions := 3 } ∧
    changing.Hears 1 .supervisor ∧ changing.line.changeover? = some context ∧ context.extensions < 3 := by
  refine ⟨rfl, fun _ h => (by cases h), fun _ h => (by cases h), ?_⟩
  unfold State.Hears State.Attends; decide

/-- A changeover with each cause, and with an origin to go back to. -/
theorem witness_abandon : changing.Hears 1 .supervisor ∧ changing.line.changeover? = some context ∧ context.origin = 0 ∧
    ∃ s : State, s.Hears 1 .supervisor ∧ s.line.changeover? = some { context with origin := 7 } ∧
      ({ context with origin := 7 } : Changeover).cause = .order ∧ ({ context with origin := 7 } : Changeover).origin ≠ 0 := by
  refine ⟨?_, rfl, rfl, { changing with line := .stalled { context with origin := 7 }, active := 7 }, ?_, rfl, rfl, by decide⟩
    <;> (unfold State.Hears State.Attends; decide)

theorem witness_service_enter : running.Hears 1 .supervisor ∧ running.line = .run ∧ running.frozen = false ∧
    63 < (byteAt [9, 64, 0] 1).toNat ∧ (byteAt [9, 1, 32] 2 ≠ 0xFF ∧ 31 < (byteAt [9, 1, 32] 2).toNat) ∧
    (byteAt [9, 1, 0xFF] 0).toNat = (9 : FormatNo).val ∧ (byteAt [9, 1, 0xFF] 1).toNat = (1 : SlotSet).toNat ∧
    byteAt [9, 1, 0xFF] 2 = 0xFF ∧ (7 : FormatNo) = running.active ∧ running.planPending = false ∧
    (running.fmt 9).state = .sealed ∧ (running.fmt 9).kind = .service ∧ (running.fmt 7).kind = .production ∧
    ((2 : SlotSet).getLsbD 1 = true ∧ (running.fmt 9).lists[1] = []) ∧
    (∀ k : SlotId, (1 : SlotSet).getLsbD k.val = true → (running.fmt 9).lists[k] ≠ []) ∧
    (byteAt [9, 1, 31] 2 ≠ 0xFF ∧ (31 : FormatNo) ≠ 0 ∧ (running.fmt 31).state ≠ .sealed) ∧
    ({ running with planWriting := true } : State).planPending = true := by
  unfold State.Hears State.Attends; decide

theorem witness_service_leave : serving.Hears 1 .supervisor ∧ serving.line = .service 1 7 0 ∧
    (∀ k : SlotId, (1 : SlotSet).getLsbD k.val = true ↔ (serving.fmt 7).lists[k] ≠ []) ∧
    ({ serving with line := .service 1 0 0 } : State).Hears 1 .supervisor := by
  unfold State.Hears State.Attends; decide

theorem witness_manifest_begin : running.Hears 2 (.controller 0) ∧ running.line ≠ .noFormat ∧
    (∀ kept ret g, running.line = .service kept ret g → kept.getLsbD (0 : SlotId).val = true) ∧ half [0, 0] 0 = 0 ∧
    256 < (half [1, 1] 0).toNat ∧ half [1, 0] 0 ≠ 0 ∧ (half [1, 0] 0).toNat ≤ 256 := by
  refine ⟨?_, by decide, fun _ _ _ h => (by cases h), by decide⟩
  unfold State.Hears State.Attends; decide

theorem witness_manifest_part : running.Hears 2 (.controller 0) ∧ (∀ d es, running.buffers[2] ≠ .assembling d es) ∧
    (assembling 3 manifest running).Hears 2 (.controller 0) ∧
    (assembling 3 manifest running).buffers[2] = .assembling 3 manifest ∧
    (byteAt ([1] ++ entryBytes 121 3) 0).toNat = 1 ∧ ([1] ++ entryBytes 121 3).length = 1 + 11 * 1 ∧ 3 < manifest.length + 2 ∧
    manifest.length + 1 ≤ 3 ∧
    (∀ j (e : ManifestEntry), [{ id := 121, report := .unset : ManifestEntry }][j]? = some e →
      manifestEntryAt ([1] ++ entryBytes 121 3) (1 + 11 * j) = some e ∧ e.id ≠ 0) ∧
    (manifest ++ [{ id := 121, report := .unset : ManifestEntry }]).Pairwise (fun a b => a.id < b.id) ∧
    manifest.Pairwise (fun a b => a.id < b.id) ∧
    manifestEntryAt ([1] ++ entryBytes 121 4) (1 + 11 * 0) = none ∧
    manifestEntryAt ([1] ++ entryBytes 0 3) (1 + 11 * 0) = some { id := 0, report := .unset } ∧
    manifestEntryAt ([1] ++ entryBytes 120 3) (1 + 11 * 0) = some { id := 120, report := .unset } ∧
    (∃ x, (manifest ++ []).getLast? = some x ∧ (120 : Word16) ≤ x.id) := by
  refine ⟨by unfold State.Hears State.Attends; decide, fun _ _ h => ?_, by unfold State.Hears State.Attends; decide, rfl,
    by decide, by decide, by decide, by decide, fun j e h => ?_, by decide, by decide, by decide, by decide, by decide,
    ⟨_, rfl, by decide⟩⟩
  · have : running.buffers[2] = .idle := rfl
    rw [this] at h
    cases h
  · match j with
    | 0 => cases h; decide
    | n + 1 => simp at h

/-- Entries of each report kind, and of codes below and above them. -/
theorem witness_entry_layout : byteAt (entryBytes 7 1) 2 = 1 ∧ byteAt (entryBytes 7 2) 2 = 2 ∧ byteAt (entryBytes 7 3) 2 = 3 ∧
    byteAt (entryBytes 7 0) 2 = 0 ∧ 3 < (byteAt (entryBytes 7 4) 2).toNat := by decide

theorem test_entry_value_is_signed : manifestEntryAt ([0, 9, 2] ++ [1, 2, 3, 4] ++ [0xFF, 0xFF, 0xFF, 0xFE]) 0 =
    some { id := 9, report := .value (-2) } := by decide

theorem witness_manifest_end : running.Hears 2 (.controller 0) ∧ (assembling 2 manifest running).Hears 2 (.controller 0) ∧
    (assembling 2 manifest running).buffers[2] = .assembling 2 manifest ∧ manifest.length = 2 ∧ manifest.length ≠ 3 ∧
    (assembling 2 manifest up).Hears 2 (.controller 0) ∧ (assembling 2 manifest up).line = .noFormat ∧
    ({ serving with line := .service 2 7 0 } : State).line = .service 2 7 0 ∧ (2 : SlotSet).getLsbD 0 = false ∧
    running.line = .run ∧ (7 : FormatNo) = running.active ∧ stalled.line.changeover? = some { context with extensions := 3 } ∧
    (1 : SlotSet).getLsbD 0 = true ∧ (running.fmt 7).lists[1] = [] ∧ running.Hears 3 (.controller 1) ∧
    (running.fmt 7).lists[0] ≠ [] ∧ running.comparing = none ∧ running.queue = [] ∧
    ({ running with comparing := some 5 } : State).comparing = some 5 := by unfold State.Hears State.Attends; decide

theorem witness_band_and_lists : (∃ n blo bhi floor wlo whi lo hi, fill.value = .tunable n blo bhi floor wlo whi lo hi ∧
      fill.value.bandSound ∧ n < 5030 ∧ (5030 : Int) ≤ hi ∧ lo ≤ 4980 ∧ (4980 : Int) < n ∧ (4979 : Int) < lo) ∧
    program.value = .fixed 0x11 ∧ [fill, program].Pairwise (fun a b => a.id < b.id) ∧
    manifest.Pairwise (fun a b => a.id < b.id) ∧
    (mergeWalk [fill, program] manifest).Pairwise (fun a b => a.id < b.id) := by
  refine ⟨⟨5000, 40, 60, 10, 20, 30, 4980, 5030, by decide, ?_, by decide⟩, by decide⟩
  show RefValue.bandSound (.tunable 5000 40 60 10 20 30 4980 5030)
  simp [RefValue.bandSound]

/-- A class sequence with a refusing block, and one without. -/
theorem witness_summary : (∃ x ∈ mergeWalk [fill] [{ id := 40, report := .value 5031 }], x.cls ∈ [BlockClass.offband]) ∧
    (∀ x ∈ mergeWalk [fill, program] manifest, x.cls ∉ [BlockClass.offband, .altered, .unset, .missing, .extra]) ∧
    ∃ x ∈ mergeWalk [fill, program] manifest, x.cls = .inband := by decide

theorem witness_results : up.comparing = none ∧ (comparing 37 running).comparing = some 2 ∧
    (comparing 37 running).buffers[2] = .verifying (verification 37) ∧ (comparing 37 running).Awaits 2 0x12 ∧
    (verification 37).epoch = (comparing 37 running).epoch ∧ (comparing 37 running).line = .run ∧
    (comparing 36 running).buffers[2] = .verifying (verification 36) ∧ (comparing 36 running).Awaits 2 0x12 ∧
    (verification 36).epoch ≠ (comparing 36 running).epoch ∧ (comparing 40 serving).Awaits 2 0x12 ∧
    (verification 40).epoch = (comparing 40 serving).epoch ∧ (comparing 40 serving).line = .service 1 7 0 := by
  unfold State.Awaits; decide

/-- A verification whose format stands. -/
theorem witness_walk : (verification 37).lost = none := rfl

/-- The walk of K0's list in F7 (section 3.6, case 1) is that of the result. -/
theorem test_result_is_the_walk : (running.sequenceOf (verification 37)).map ClassRecord.cls = [.inband, .matched] := by
  decide

/-- One participant, whose result completes the ready set; and two, where one is still to come. -/
theorem witness_commit : (comparing 38 changing).comparing = some 2 ∧
    (comparing 38 changing).buffers[2] = .verifying (verification 38) ∧ (comparing 38 changing).Awaits 2 0x12 ∧
    (verification 38).epoch = (comparing 38 changing).epoch ∧ (comparing 38 changing).line.changeover? = some context ∧
    context.participants.getLsbD (verification 38).slot.val = true ∧
    (summaryOf (verification 38) ((comparing 38 changing).sequenceOf (verification 38))).verdict ≠ .refused ∧
    (∀ k : SlotId, (1 : SlotSet).getLsbD k.val =
      (if k = 0 then true else context.ready.getLsbD k.val)) ∧ (1 : SlotSet) = context.participants ∧
    ({ context with participants := 3 } : Changeover).participants.getLsbD 0 = true ∧ (1 : SlotSet) ≠ 3 := by
  unfold State.Awaits; decide

theorem witness_command_runs : ∃ t, exec .residencyTick running = .next t := ⟨_, rfl⟩

/-! The hypotheses of the invariants, met outside of reset as well. -/

theorem context_sound_up : up.ContextSound := by
  show up.NoSeal ∧ ∀ n : FormatNo, (up.fmt n).settled
  refine ⟨fun _ _ h => (by cases h), fun n => ?_⟩
  revert n
  unfold FormatRecord.settled
  decide +kernel

theorem witness_pool : up.PoolConserved ∧ up.ContextSound ∧ ∃ t, step up = .next t :=
  ⟨by unfold State.PoolConserved; decide +kernel, context_sound_up, _, rfl⟩

theorem blank_lists (n : FormatNo) (k : SlotId) : (up.fmt n).lists[k] = [] := by
  revert n k
  decide +kernel

theorem blank_areas (n : FormatNo) (r : SealedRecord) : up.areas[n] ≠ .sealed r := by
  have h : up.areas[n] = .blank := by
    revert n
    decide +kernel
  rw [h]
  exact fun e => by cases e

theorem witness_lists : up.StoreListsSound := by
  refine ⟨fun n k => ?_, fun n r h => absurd h (blank_areas n r)⟩
  rw [blank_lists n k]
  exact ⟨⟨Nat.zero_le _, .nil, fun _ h => by cases h⟩, fun _ h => by cases h⟩

/-- The plan of `up` is within the limits, and a plan write of another is in flight. -/
theorem witness_fields_and_plans : up.FieldsSound ∧ planning.PlansSound := by
  refine ⟨⟨fun n => ?_, fun n r h => absurd h (blank_areas n r)⟩, fun _ => by unfold Plan.Legal; decide, fun plan l h => ?_⟩
  · revert n
    unfold FieldsInRange
    decide +kernel
  · cases h
    unfold Plan.Legal
    decide

theorem witness_sealed_hold : up.ContextSound ∧ up.SealedHold := by
  refine ⟨context_sound_up, fun n h0 h => ?_, fun n r h => absurd h (blank_areas n r)⟩
  exfalso
  revert n
  decide +kernel

theorem witness_roles : up.ContextSound ∧ up.RolesSound := ⟨context_sound_up, rfl, fun _ => rfl⟩

/-- A released slot: its permit is high in RUN. -/
theorem witness_permits : running.PermitsFollow ∧ (frozen running).TripsEnabled := by
  have holds : ∀ k : SlotId, running.slots[k].hold = true ↔
      ∃ i : CounterNo, running.counters[i].enable = true ∧ running.counters[i].flag = true ∧
        running.counters[i].action = .drop ∧ running.counters[i].filter.getLsbD k.val = true := by decide
  have levels : ∀ k : SlotId, running.slots[k].permit = true ↔
      (running.slots[k].verdict = .cleared ∨ running.slots[k].verdict = .trimmed ∨ running.slots[k].verdict = .stale) ∧
        running.slots[k].hold = false := by decide
  refine ⟨fun k => ⟨holds k, fun h => ⟨.inl rfl, (levels k).1 h⟩, fun h => (levels k).2 h.2⟩, ?_⟩
  unfold State.TripsEnabled
  decide

theorem witness_ready_and_timers : changing.ReadySound ∧ changing.TimersSound ∧ running.TimersSound := by
  refine ⟨fun c h k r => ?_, fun k h => ?_, fun k h => ⟨.inl rfl, ?_⟩⟩
  · cases h
    exact absurd r (by revert k; decide)
  · exact absurd h (by revert k; decide)
  · revert k
    decide

theorem witness_links : up.LinksSound ∧ up.ManifestsSound := by
  have idle : ∀ l : LinkId, up.link l = Link.atReset ∧ up.buffers[l] = .idle := by decide
  refine ⟨⟨fun l => ?_, fun _ _ h => by cases h⟩, fun l => ?_, .nil, fun _ h => (by cases h), fun _ => rfl,
    fun l => ⟨⟨fun h => ?_, fun h => ?_⟩, fun h => ?_⟩⟩
  · rw [(idle l).1]
    exact ⟨⟨fun ⟨_, h⟩ => (by cases h), fun ⟨_, h⟩ => (by cases h)⟩, fun _ => ⟨rfl, fun _ _ h => by cases h⟩⟩
  · rw [(idle l).2]
    exact trivial
  · cases h with
    | inl h => cases h
    | inr h => cases h
  · rw [(idle l).2] at h
    cases h.choose_spec
  · cases h with
    | inl h => cases h
    | inr h => cases h

end Sys2Proof.Tests
end

/-! ## Fields and code tables: what a byte names (R164) -/

section
namespace Sys2Proof.Machine

theorem slotOf_of_val {b : Byte} {k : SlotId} (h : b.toNat = k.val) : slotOf b = some k := by
  simp [slotOf, h]

theorem slotOf_of_gt {b : Byte} (h : 5 < b.toNat) : slotOf b = none := dif_neg (by omega)

theorem formatOf_of_val {b : Byte} {f : FormatNo} (h : b.toNat = f.val) : formatOf b = some f := by
  simp [formatOf, h]

theorem formatOf_of_gt {b : Byte} (h : 31 < b.toNat) : formatOf b = none := dif_neg (by omega)

theorem storableOf_of_val {b : Byte} {f : FormatNo} (hf : f ≠ 0) (h : b.toNat = f.val) : storableOf b = some f := by
  simp [storableOf, formatOf_of_val h, hf]

/-- F0 and the numbers above F31 are not storable (R1). -/
theorem storableOf_none {b : Byte} (h : b = 0 ∨ 31 < b.toNat) : storableOf b = none := by
  rcases h with rfl | h
  · decide
  · simp [storableOf, formatOf_of_gt h]

@[simp] theorem presenceOf_code (x : Presence) : presenceOf x.code = some x := by cases x <;> rfl

@[simp] theorem formatKindOf_code (x : FormatKind) : formatKindOf x.code = some x := by cases x <;> rfl

/-- A byte above 1 is neither of the two codes. -/
theorem byte_ne_of_gt_one {b : Byte} (h : 1 < b.toNat) : b ≠ 0 ∧ b ≠ 1 := by
  constructor <;> rintro rfl <;> exact absurd h (by decide)

/-- A byte up to 1 is one of the two codes. -/
theorem byte_eq_of_le_one {b : Byte} (h : b.toNat ≤ 1) : b = 0 ∨ b = 1 := by
  rcases Nat.le_one_iff_eq_zero_or_eq_one.1 h with h | h
  · exact .inl (BitVec.eq_of_toNat_eq h)
  · exact .inr (BitVec.eq_of_toNat_eq h)

theorem presenceOf_of_gt {b : Byte} (h : 1 < b.toNat) : presenceOf b = none := by
  rw [presenceOf, if_neg (byte_ne_of_gt_one h).1, if_neg (byte_ne_of_gt_one h).2]

theorem formatKindOf_of_gt {b : Byte} (h : 1 < b.toNat) : formatKindOf b = none := by
  rw [formatKindOf, if_neg (byte_ne_of_gt_one h).1, if_neg (byte_ne_of_gt_one h).2]

theorem refValueOf_of_gt {p : List Byte} (h : 1 < (byteAt p 4).toNat) : refValueOf p = none := by
  rw [refValueOf, if_neg (byte_ne_of_gt_one h).1, if_neg (byte_ne_of_gt_one h).2]

theorem presenceOf_of_le {b : Byte} (h : b.toNat ≤ 1) : ∃ x, presenceOf b = some x := by
  rcases byte_eq_of_le_one h with rfl | rfl
  exacts [⟨.required, rfl⟩, ⟨.optional, rfl⟩]

theorem refValueOf_of_le {p : List Byte} (h : (byteAt p 4).toNat ≤ 1) : ∃ v, refValueOf p = some v := by
  rcases byte_eq_of_le_one h with h | h
  · exact ⟨_, if_pos h⟩
  · exact ⟨_, by rw [refValueOf, if_neg (by simp [h]), if_pos h]⟩

/-- A number written in one byte is the byte it was read from. -/
theorem num1_of_val {b : Byte} {n : Nat} (h : b.toNat = n) : num1 n = [b] := by
  simp [num1, ← h]

end Sys2Proof.Machine
end

/-! ## Requests that are answered at once: the state the answer leaves (R146, R148) -/

section
namespace Sys2Proof.Machine

variable {s : State} {l : LinkId} {k : ReqKind} {p payload : List Byte} {own : State → State × Answer} {r : Result}

/-! What a request in service has not touched. -/

@[simp] theorem State.serving_fmt (kind : Byte) (f : FormatNo) : (s.serving l kind).fmt f = s.fmt f := rfl
@[simp] theorem State.serving_enroll (kind : Byte) : (s.serving l kind).enroll = s.enroll := rfl
@[simp] theorem State.serving_poolFree (kind : Byte) : (s.serving l kind).poolFree = s.poolFree := rfl
@[simp] theorem State.serving_planPending (kind : Byte) : (s.serving l kind).planPending = s.planPending := rfl

/-- An owning block that writes the format table, the context and the free count and answers leaves that and the answer. -/
theorem State.serve_writes (h : s.Attends l) (hs : s.screen l k p = none) {F : Vector FormatRecord 32}
    {E : Option EnrollContext} {n : Nat}
    (ho : own (s.serving l (kindCode k)) =
      ({ s.serving l (kindCode k) with formats := F, enroll := E, poolFree := n }, .reply r payload)) :
    s.serve l k p own = { s.answered l (kindCode k) r payload with formats := F, enroll := E, poolFree := n } := by
  rw [State.serve_replies h hs ho, ← State.respond_serving]
  rfl

/-- An owning block that answers and changes nothing leaves the answer alone. -/
theorem State.serve_answers (h : s.Attends l) (hs : s.screen l k p = none)
    (ho : own (s.serving l (kindCode k)) = (s.serving l (kindCode k), .reply r payload)) :
    s.serve l k p own = s.answered l (kindCode k) r payload :=
  State.serve_writes h hs ho

/-- Checks 3 to 6 of R148, each passed. -/
theorem State.screen_passes (hl : lengthOk k p = true) (hr : roleMay s.plan[l] k p = true)
    (hp : phaseAdmits s.line s.plan[l] k = true) (hf : s.frozen = false ∨ freezeRefuses k p = false) :
    s.screen l k p = none := by
  have hf' : (s.frozen && freezeRefuses k p) = false := by rcases hf with h | h <;> simp [h]
  simp only [State.screen, hl, hr, hp, hf']
  rfl

/-- The requests of ENGINEERING that open, build and end a format (R149). -/
def buildKinds : List ReqKind := [.formatOpen, .entryAdd, .entryDrop, .formatSet, .formatSeal, .formatDiscard]

/-- A request of ENGINEERING that builds a format passes in every line phase; the freeze refuses neither FORMAT-SET nor
FORMAT-DISCARD (R149 to R151). -/
theorem State.screen_build (hk : k ∈ buildKinds) (h : s.Hears l .engineering) (hl : lengthOk k p = true)
    (hf : s.frozen = false ∨ k ∈ [.formatSet, .formatDiscard]) : s.screen l k p = none := by
  have hrole : ∀ k ∈ buildKinds, roleMay .engineering k p = true := by simp [buildKinds, roleMay]
  have hphase : ∀ k ∈ buildKinds, phaseAdmits s.line s.plan[l] k = true := by simp [buildKinds, phaseAdmits]
  have hfreeze : ∀ k ∈ [ReqKind.formatSet, .formatDiscard], freezeRefuses k p = false := by simp [freezeRefuses]
  exact State.screen_passes hl (h.2 ▸ hrole k hk) (hphase k hk) (hf.imp_right (hfreeze k))

/-- A read of the format table passes for ENGINEERING and SUPERVISOR, in every line phase and whatever the freeze. -/
theorem State.screen_read (hk : k ∈ [.formatRead, .entryRead]) (h : s.plan[l] = .engineering ∨ s.plan[l] = .supervisor)
    (hl : lengthOk k p = true) : s.screen l k p = none := by
  have hrole : ∀ k ∈ [ReqKind.formatRead, .entryRead], roleMay s.plan[l] k p = true := by
    rcases h with h | h <;> rw [h] <;> simp [roleMay]
  have hphase : ∀ k ∈ [ReqKind.formatRead, .entryRead], phaseAdmits s.line s.plan[l] k = true := by simp [phaseAdmits]
  have hfreeze : ∀ k ∈ [ReqKind.formatRead, .entryRead], freezeRefuses k p = false := by simp [freezeRefuses]
  exact State.screen_passes hl (hrole k hk) (hphase k hk) (.inr (hfreeze k hk))

end Sys2Proof.Machine
end

/-! ## The context checks (R21) -/

section
namespace Sys2Proof.Machine

variable {s : State} {l : LinkId} {f : FormatNo} {b : Byte}

/-- The request of the owner on its format reaches the context. -/
theorem State.reachContext_owner {idle : Option Nat} (hf : f ≠ 0) (hb : b.toNat = f.val)
    (h : s.enroll = some { format := f, owner := l, idle := idle }) :
    s.reachContext l b = .ok { format := f, owner := l, idle := idle } := by
  simp [State.reachContext, storableOf_of_val hf hb, h]

/-- A number that is not storable is RANGE. -/
theorem State.reachContext_range (h : b = 0 ∨ 31 < b.toNat) : s.reachContext l b = .error .range := by
  simp [State.reachContext, storableOf_none h]

/-- Without a context, or with another format or owner in it, the request is STATE. -/
theorem State.reachContext_state (hf : f ≠ 0) (hb : b.toNat = f.val)
    (h : ∀ c, s.enroll = some c → c.format ≠ f ∨ c.owner ≠ l) : s.reachContext l b = .error .state := by
  simp only [State.reachContext, storableOf_of_val hf hb]
  cases he : s.enroll with
  | none => rfl
  | some c => exact if_neg (not_and_or.2 (h c he))

end Sys2Proof.Machine
end

/-! ## The five requests on an open format ask R21 first, and R30 while it is SEALING -/

section
namespace Sys2Proof.Machine

variable {s : State} {l : LinkId} {k : ReqKind} {p : List Byte} {f : FormatNo}

/-- The command of a request is the one its link, kind and payload name. -/
theorem request_eq_requestCommand {i : Instr} (h : i.request? = some (l, k, p)) : i = requestCommand l k p := by
  cases i <;> cases h <;> rfl

/-- The five requests on the context's format (R21). -/
def contextKinds : List ReqKind := [.entryAdd, .entryDrop, .formatSet, .formatSeal, .formatDiscard]

/-- What a request on the context's format is refused with while that is SEALING (R30). -/
def sealingRefusal (k : ReqKind) : Result := if k = .formatDiscard then .busy else .state

/-- An owning block that asks the context checks first and refuses with `r` while the format is SEALING. -/
def AsksContextFirst (l : LinkId) (p : List Byte) (r : Result) (own : State → State × Answer) : Prop :=
  (∀ s e, s.reachContext l (byteAt p 0) = .error e → own s = (s, .reply e [])) ∧
  ∀ s c, s.reachContext l (byteAt p 0) = .ok c → (s.fmt c.format).state = .sealing → own s = (s, .reply r [])

theorem ownEntryAdd_asksContextFirst : AsksContextFirst l p .state (ownEntryAdd l p) :=
  ⟨fun s e h => by simp only [ownEntryAdd, h], fun s c h hs => by simp only [ownEntryAdd, h, if_pos hs]⟩

theorem ownEntryDrop_asksContextFirst : AsksContextFirst l p .state (ownEntryDrop l p) :=
  ⟨fun s e h => by simp only [ownEntryDrop, h], fun s c h hs => by simp only [ownEntryDrop, h, if_pos hs]⟩

theorem ownFormatSet_asksContextFirst : AsksContextFirst l p .state (ownFormatSet l p) :=
  ⟨fun s e h => by simp only [ownFormatSet, h], fun s c h hs => by simp only [ownFormatSet, h, if_pos hs]⟩

theorem ownFormatSeal_asksContextFirst : AsksContextFirst l p .state (ownFormatSeal l p) :=
  ⟨fun s e h => by simp only [ownFormatSeal, h], fun s c h hs => by simp only [ownFormatSeal, h, if_pos hs]⟩

theorem ownFormatDiscard_asksContextFirst : AsksContextFirst l p .busy (ownFormatDiscard l p) :=
  ⟨fun s e h => by simp only [ownFormatDiscard, h], fun s c h hs => by simp only [ownFormatDiscard, h, if_pos hs]⟩

/-- Each of the five is served by a block that asks the context checks first. -/
theorem exec_contextRequest (hk : k ∈ contextKinds) : ∃ own, AsksContextFirst l p (sealingRefusal k) own ∧
    ∀ s, exec (requestCommand l k p) s = .next (s.serve l k p own) := by
  simp only [contextKinds, List.mem_cons, List.not_mem_nil, or_false] at hk
  rcases hk with rfl | rfl | rfl | rfl | rfl
  · exact ⟨_, ownEntryAdd_asksContextFirst, fun _ => rfl⟩
  · exact ⟨_, ownEntryDrop_asksContextFirst, fun _ => rfl⟩
  · exact ⟨_, ownFormatSet_asksContextFirst, fun _ => rfl⟩
  · exact ⟨_, ownFormatSeal_asksContextFirst, fun _ => rfl⟩
  · exact ⟨_, ownFormatDiscard_asksContextFirst, fun _ => rfl⟩

/-- Settles O22: the context checks and the refusal while SEALING stand at the head of each of the five blocks, and the
request comes to its block because ENGINEERING sends it in any phase. -/
theorem contextChecksComeFirst : Obligations.ContextChecksComeFirst := by
  unfold Obligations.ContextChecksComeFirst
  intro s l k i p hears hfreeze hk hi hlen
  obtain rfl := request_eq_requestCommand hi
  obtain ⟨own, ⟨refuses, sealing⟩, hexec⟩ := exec_contextRequest (l := l) (p := p) hk
  have hpass : s.screen l k p = none := State.screen_build (List.mem_cons_of_mem _ hk) hears hlen hfreeze
  have answers {r : Result} (ho : ∀ t, t.reachContext l (byteAt p 0) = s.reachContext l (byteAt p 0) →
      (∀ g, t.fmt g = s.fmt g) → own t = (t, .reply r [])) :
      exec (requestCommand l k p) s = .next (s.answered l (kindCode k) r []) := by
    rw [hexec, State.serve_answers hears.1 hpass (ho _ rfl fun _ => rfl)]
  refine ⟨fun hrange => ?_, fun f hf hb => ⟨fun hother => ?_, fun c hc hcf hcl hs => ?_⟩⟩
  · exact answers fun t ht _ => refuses t _ (ht.trans (State.reachContext_range hrange))
  · exact answers fun t ht _ => refuses t _ (ht.trans (State.reachContext_state hf hb hother))
  · obtain ⟨_, _, idle⟩ := c
    obtain ⟨rfl, rfl⟩ := And.intro hcf hcl
    have hseal := answers fun t ht hg => sealing t _ (ht.trans (State.reachContext_owner hf hb hc)) ((hg _).symm ▸ hs)
    exact ⟨fun hne => by rwa [sealingRefusal, if_neg hne] at hseal, fun he => by rwa [sealingRefusal, if_pos he] at hseal⟩

end Sys2Proof.Machine
end

/-! ## FORMAT-OPEN (R23) -/

section
namespace Sys2Proof.Machine

variable {s : State} {l : LinkId} {p : List Byte} {f : FormatNo} {kind : FormatKind}

theorem ownFormatOpen_range (h : byteAt p 0 = 0 ∨ 31 < (byteAt p 0).toNat ∨ 1 < (byteAt p 1).toNat) :
    ownFormatOpen l p s = (s, .reply .range []) := by
  rcases or_assoc.2 h with h | h
  · simp [ownFormatOpen, storableOf_none h]
  · cases hs : storableOf (byteAt p 0) <;> simp only [ownFormatOpen, hs, formatKindOf_of_gt h]

/-- FORMAT-OPEN of a storable number with a defined kind: the context and the plan marker first, then the state. -/
theorem ownFormatOpen_eq (hf : f ≠ 0) (hb : (byteAt p 0).toNat = f.val) (hk : byteAt p 1 = kind.code) :
    ownFormatOpen l p s =
      if s.enroll.isSome || s.planPending then (s, .reply .busy [])
      else if (s.fmt f).state ≠ .empty then (s, .reply .state [])
      else (s.openFormat l f kind, .reply .done (byteAt p 0 :: bytes2 (s.genOf f))) := by
  simp only [ownFormatOpen, storableOf_of_val hf hb, hk, formatKindOf_code, num1_of_val hb, List.singleton_append]

/-- The record and the context that FORMAT-OPEN creates, all else unchanged. -/
theorem State.openFormat_eq (hf : f ≠ 0) : s.openFormat l f kind =
    { s with
      formats := s.formats.set f { FormatRecord.blank with kind := kind, state := .opened }
      enroll := some { format := f, owner := l, idle := some 120000 } } := by
  simp [State.openFormat, State.setFmt, hf, idleTime, seconds]

/-- Settles O21: the block's checks in the order of R23. -/
theorem formatOpenOpensAnEmptyFormat : Obligations.FormatOpenOpensAnEmptyFormat := by
  unfold Obligations.FormatOpenOpensAnEmptyFormat
  intro s l p hears hfrozen hlen
  have hpass : s.screen l .formatOpen p = none :=
    State.screen_build (by decide) hears (by simp [lengthOk, hlen]) (.inl hfrozen)
  have answers {r : Result} (ho : ∀ t, ownFormatOpen l p (s.serving l t) = (s.serving l t, .reply r [])) :
      exec (.formatOpen l p) s = .next (s.answered l 0x30 r []) :=
    congrArg _ (State.serve_answers hears.1 hpass (ho _))
  refine ⟨fun h => answers fun t => ownFormatOpen_range h, fun f kind hf hb hk => ⟨fun h => ?_, fun he hp hs => ?_,
    fun he hp hs => ?_⟩⟩
  · exact answers fun t => by rw [ownFormatOpen_eq hf hb hk, if_pos (by simpa using h)]
  · exact answers fun t => by rw [ownFormatOpen_eq hf hb hk, if_neg (by simp [he, hp]), if_pos (by simpa using hs)]
  · refine congrArg _ (State.serve_writes hears.1 hpass ?_)
    rw [ownFormatOpen_eq hf hb hk, if_neg (by simp [he, hp]), if_neg (by simpa using hs), State.openFormat_eq hf]
    rfl

end Sys2Proof.Machine
end

/-! ## ENTRY-DROP (R27) -/

section
namespace Sys2Proof.Machine

variable {s : State} {l : LinkId} {p : List Byte} {f : FormatNo} {k : SlotId} {c : EnrollContext}

theorem holdsBlock_iff (id : Word16) (xs : List RefEntry) : holdsBlock id xs = true ↔ ∃ e ∈ xs, e.id = id := by
  simp [holdsBlock]

theorem holdsBlock_eq_false (id : Word16) (xs : List RefEntry) : holdsBlock id xs = false ↔ ∀ e ∈ xs, e.id ≠ id := by
  simp [holdsBlock]

/-- The owner's request on its format, which is not SEALING, passes the context checks. -/
theorem reachContext_of_ownsOpen (h : ownsOpen s l f) (hb : (byteAt p 0).toNat = f.val) :
    ∃ c : EnrollContext, s.reachContext l (byteAt p 0) = .ok c ∧ c.format = f ∧ c.owner = l := by
  obtain ⟨-, hf, -, idle, he⟩ := h
  exact ⟨_, State.reachContext_owner hf hb he, rfl, rfl⟩

theorem ownEntryDrop_range (hc : s.reachContext l (byteAt p 0) = .ok c) (ho : (s.fmt c.format).state ≠ .sealing)
    (h : slotOf (byteAt p 1) = none ∨ half p 2 = 0) : ownEntryDrop l p s = (s, .reply .range []) := by
  simp only [ownEntryDrop, hc, if_neg ho]
  split
  · rfl
  · rename_i hk
    rw [if_pos (h.resolve_left (by simp [hk]))]

/-- A block id that the list does not hold is RANGE (R27). -/
theorem ownEntryDrop_absent (hc : s.reachContext l (byteAt p 0) = .ok c) (ho : (s.fmt c.format).state ≠ .sealing)
    (hk : (byteAt p 1).toNat = k.val) (h : ∀ e ∈ (s.fmt c.format).lists[k], e.id ≠ half p 2) :
    ownEntryDrop l p s = (s, .reply .range []) := by
  have hb := (holdsBlock_eq_false _ _).2 h
  by_cases hid : half p 2 = 0
  · exact ownEntryDrop_range hc ho (.inr hid)
  · simp only [ownEntryDrop, hc, if_neg ho, slotOf_of_val hk, if_neg hid, hb, Bool.false_eq_true, if_false]

/-- One list of the context's format has a new content, the free count a new value, the idle timer its full time (R22,
R26, R27). -/
def State.writeList (c : EnrollContext) (k : SlotId) (xs : List RefEntry) (free : Nat) (s : State) : State :=
  { s with
    formats := s.formats.set c.format { s.fmt c.format with lists := (s.fmt c.format).lists.set k xs }
    enroll := some { c with idle := some 120000 }
    poolFree := free }

theorem State.addEntry_eq (hf : c.format ≠ 0) (e : RefEntry) : s.addEntry c k e =
    s.writeList c k (insertEntry e (s.fmt c.format).lists[k]) (s.poolFree - 1) := by
  simp only [State.addEntry, State.setFmt, if_neg hf]
  rfl

theorem State.dropEntry_eq (hf : c.format ≠ 0) (id : Word16) : s.dropEntry c k id =
    s.writeList c k ((s.fmt c.format).lists[k].eraseP (fun e => e.id == id)) (s.poolFree + 1) := by
  simp only [State.dropEntry, State.setFmt, if_neg hf]
  rfl

/-- The counts answered after the write of a list. -/
theorem State.writeList_listBytes (hf : c.format ≠ 0) (xs : List RefEntry) (free : Nat) :
    (s.writeList c k xs free).listBytes c.format k = num2 xs.length ++ num2 free := by
  simp [State.listBytes, State.writeList, State.fmt, hf]

/-- The entry that leaves is the first with the block id. -/
theorem eraseP_id_first {id : Word16} {before after : List RefEntry} {e : RefEntry} (hb : ∀ x ∈ before, x.id ≠ id)
    (he : e.id = id) : (before ++ e :: after).eraseP (fun x => x.id == id) = before ++ after := by
  rw [List.eraseP_append_right _ (by simpa using hb), List.eraseP_cons_of_pos (by simpa using he)]

/-- The first entry with the block id leaves the list and is free again (R27). -/
theorem ownEntryDrop_drops (hc : s.reachContext l (byteAt p 0) = .ok c) (ho : (s.fmt c.format).state ≠ .sealing)
    (hf : c.format ≠ 0) (hk : (byteAt p 1).toNat = k.val) (hid : half p 2 ≠ 0) {before after : List RefEntry}
    {e : RefEntry} (hlist : (s.fmt c.format).lists[k] = before ++ e :: after) (hb : ∀ x ∈ before, x.id ≠ half p 2)
    (he : e.id = half p 2) :
    ownEntryDrop l p s = (s.writeList c k (before ++ after) (s.poolFree + 1),
      .reply .done (num2 (before.length + after.length) ++ num2 (s.poolFree + 1))) := by
  have hholds : holdsBlock (half p 2) (s.fmt c.format).lists[k] = true :=
    (holdsBlock_iff _ _).2 ⟨e, by simp [hlist], he⟩
  have hwrite := State.dropEntry_eq (s := s) (k := k) hf (half p 2)
  rw [hlist, eraseP_id_first hb he] at hwrite
  simp only [ownEntryDrop, hc, if_neg ho, slotOf_of_val hk, if_neg hid, if_pos hholds, hwrite,
    State.writeList_listBytes hf, List.length_append]

/-- Settles O24: the list splits at the first entry with the block id, and that is the one that leaves. -/
theorem entryDropRemovesTheEntry : Obligations.EntryDropRemovesTheEntry := by
  unfold Obligations.EntryDropRemovesTheEntry
  intro s l p f owns hfrozen hlen hb
  obtain ⟨c, hc, rfl, rfl⟩ := reachContext_of_ownsOpen owns hb
  obtain ⟨hears, hf, ho, -⟩ := owns
  have hpass : s.screen c.owner .entryDrop p = none :=
    State.screen_build (by decide) hears (by simp [lengthOk, hlen]) (.inl hfrozen)
  refine ⟨fun h => ?_, fun k hk hid => ⟨fun habsent => ?_, fun before e after hlist hbefore he => ?_⟩⟩
  · exact congrArg _ (State.serve_answers hears.1 hpass (ownEntryDrop_range hc ho (h.imp_left slotOf_of_gt)))
  · exact congrArg _ (State.serve_answers hears.1 hpass (ownEntryDrop_absent hc ho hk habsent))
  · exact congrArg _ (State.serve_writes hears.1 hpass
      (ownEntryDrop_drops (s := s.serving c.owner 0x32) hc ho hf hk hid hlist hbefore he))

end Sys2Proof.Machine
end

/-! ## ENTRY-ADD (R24 to R26) -/

section
namespace Sys2Proof.Machine

variable {s : State} {l : LinkId} {p : List Byte} {f : FormatNo} {k : SlotId} {c : EnrollContext}
  {presence : Presence} {value : RefValue}

/-! The value sent and the stored fields computed from it (R25, R41 to R44). -/

theorem lowerLimit_eq (n : Int) (w : Nat) :
    lowerLimit n w = if n - w < -2147483648 then -2147483648 else n - w := by
  unfold lowerLimit int32Min
  split <;> omega

theorem upperLimit_eq (n : Int) (w : Nat) : upperLimit n w = if n + w > 2147483647 then 2147483647 else n + w := by
  unfold upperLimit int32Max
  split <;> omega

theorem clamped_iff (p : List Byte) : clamped p = true ↔
    byteAt p 4 = 1 ∧ (toleranceLimit < (half p 10).toNat ∨ toleranceLimit < (half p 12).toNat) := by
  simp [clamped]

/-- The limits and the result code that the answer to an accepted ENTRY-ADD carries. -/
def AnswersEntry (p : List Byte) (value : RefValue) (r : Result) (lo hi : Int) : Prop :=
  refValueOf p = some value ∧ value.limits = (lo, hi) ∧ (if clamped p then .adjusted else .done) = r

theorem answersEntry_fixed (h : byteAt p 4 = 0) : AnswersEntry p (.fixed (octet p 6)) .done 0 0 :=
  ⟨if_pos h, rfl, by simp [clamped, h]⟩

theorem answersEntry_tunable (h : byteAt p 4 = 1) {n : Int} {blo bhi floor wlo whi : Nat} (hn : n = (quad p 6).toInt)
    (hblo : blo = min 5000 (half p 10).toNat) (hbhi : bhi = min 5000 (half p 12).toNat)
    (hfloor : floor = (half p 14).toNat) (hwlo : wlo = max floor (n.natAbs * blo / 10000))
    (hwhi : whi = max floor (n.natAbs * bhi / 10000)) :
    AnswersEntry p (.tunable n blo bhi floor wlo whi (lowerLimit n wlo) (upperLimit n whi))
      (if 5000 < (half p 10).toNat ∨ 5000 < (half p 12).toNat then .adjusted else .done)
      (lowerLimit n wlo) (upperLimit n whi) := by
  refine ⟨?_, rfl, ?_⟩
  · rw [refValueOf, if_neg (by simp [h]), if_pos h]
    subst hn hfloor hwlo hwhi hblo hbhi
    simp only [tunableValue, bandWidth, relativeWidth, magnitude, toleranceLimit, Nat.min_comm]
  · exact if_congr ((clamped_iff p).trans (and_iff_right h)) rfl rfl

/-! The checks in the order of R24. -/

theorem ownEntryAdd_range (hc : s.reachContext l (byteAt p 0) = .ok c) (ho : (s.fmt c.format).state ≠ .sealing)
    (h : slotOf (byteAt p 1) = none ∨ half p 2 = 0 ∨ refValueOf p = none ∨ presenceOf (byteAt p 5) = none) :
    ownEntryAdd l p s = (s, .reply .range []) := by
  simp only [ownEntryAdd, hc, if_neg ho]
  split
  · rename_i hk hp hv
    rw [if_pos (by simpa [hk, hp, hv] using h)]
  · rfl

/-- Past RANGE, the list and the pool decide, and the entry takes its place. -/
theorem ownEntryAdd_eq (hc : s.reachContext l (byteAt p 0) = .ok c) (ho : (s.fmt c.format).state ≠ .sealing)
    (hf : c.format ≠ 0) (hk : (byteAt p 1).toNat = k.val) (hid : half p 2 ≠ 0)
    (hp : presenceOf (byteAt p 5) = some presence) (hv : refValueOf p = some value) :
    ownEntryAdd l p s =
      if ∃ e ∈ (s.fmt c.format).lists[k], e.id = half p 2 then (s, .reply .order [])
      else if 256 ≤ (s.fmt c.format).lists[k].length ∨ s.poolFree = 0 then (s, .reply .full [])
      else
        (s.writeList c k (insertEntry { id := half p 2, presence := presence, value := value }
            (s.fmt c.format).lists[k]) (s.poolFree - 1),
          .reply (if clamped p then .adjusted else .done) (int4 value.limits.1 ++ int4 value.limits.2 ++
            (num2 ((s.fmt c.format).lists[k].length + 1) ++ num2 (s.poolFree - 1)))) := by
  simp only [ownEntryAdd, hc, if_neg ho, slotOf_of_val hk, hp, hv, if_neg hid, holdsBlock_iff, listLimit,
    State.addEntry_eq hf, State.writeList_listBytes hf, insertEntry_length]
  by_cases hlen : 256 ≤ (s.fmt c.format).lists[k].length
  · simp only [hlen, true_or, if_true]
  · simp only [hlen, false_or, if_false]

/-- A new block id has a place: before it lower ones, after it a higher one. -/
theorem insertEntry_place_of_new {e : RefEntry} {xs : List RefEntry} (h : ∀ x ∈ xs, x.id ≠ e.id) :
    ∃ before after, xs = before ++ after ∧ (∀ x ∈ before, x.id < e.id) ∧ (∀ x ∈ after.head?, e.id < x.id) ∧
      insertEntry e xs = before ++ e :: after := by
  obtain ⟨before, after, hs, hi, hb, ha⟩ := insertEntry_place e xs
  exact ⟨before, after, hs, fun x hx => BitVec.lt_of_le_ne (hb x hx) (h x (by simp [hs, hx])), ha, hi⟩

/-- An accepted ENTRY-ADD, given what its answer carries. -/
theorem exec_entryAdd_accepted (owns : ownsOpen s l f) (hpass : s.screen l .entryAdd p = none)
    (hb : (byteAt p 0).toNat = f.val) (hk : (byteAt p 1).toNat = k.val) (hid : half p 2 ≠ 0)
    (hp : byteAt p 5 = presence.code) (hnew : ∀ e ∈ (s.fmt f).lists[k], e.id ≠ half p 2)
    (hlen : (s.fmt f).lists[k].length < 256) (hpool : 0 < s.poolFree) {r : Result} {lo hi : Int}
    (hv : AnswersEntry p value r lo hi) :
    ∃ before after : List RefEntry, (s.fmt f).lists[k] = before ++ after ∧ (∀ x ∈ before, x.id < half p 2) ∧
      (∀ x ∈ after.head?, half p 2 < x.id) ∧
      exec (.entryAdd l p) s = .next
        { s.answered l 0x31 r
            (int4 lo ++ int4 hi ++ num2 ((s.fmt f).lists[k].length + 1) ++ num2 (s.poolFree - 1)) with
          formats := s.formats.set f
            { s.fmt f with
              lists := (s.fmt f).lists.set k
                (before ++ { id := half p 2, presence := presence, value := value } :: after) }
          enroll := some { format := f, owner := l, idle := some 120000 }
          poolFree := s.poolFree - 1 } := by
  obtain ⟨c, hc, rfl, rfl⟩ := reachContext_of_ownsOpen owns hb
  obtain ⟨hears, hf, ho, -⟩ := owns
  obtain ⟨hvalue, hlimits, rfl⟩ := hv
  obtain ⟨before, after, hs, hbefore, hafter, hplace⟩ :=
    insertEntry_place_of_new (e := { id := half p 2, presence := presence, value := value }) hnew
  have hown := ownEntryAdd_eq (s := s.serving c.owner 0x31) hc ho hf hk hid (by rw [hp, presenceOf_code]) hvalue
  replace hown := hown.trans ((if_neg fun ⟨e, he, heq⟩ => hnew e he heq).trans
    (if_neg (not_or.2 ⟨hlen.not_ge, hpool.ne'⟩)))
  rw [State.serving_fmt, State.serving_poolFree, hplace, hlimits, ← List.append_assoc] at hown
  exact ⟨before, after, hs, hbefore, hafter, congrArg _ (State.serve_writes hears.1 hpass hown)⟩

/-- Settles O23: past RANGE the block's outcome is one equation, whose branches are ORDER, FULL and the entry in its
place; the sent fields give the stored ones by kind of entry. -/
theorem entryAddPlacesTheEntry : Obligations.EntryAddPlacesTheEntry := by
  unfold Obligations.EntryAddPlacesTheEntry
  have passes {s : State} {l : LinkId} {p : List Byte} {f : FormatNo} (owns : ownsOpen s l f) (hfrozen : s.frozen = false)
      (hlen : p.length = 16) : s.screen l .entryAdd p = none :=
    State.screen_build (by decide) owns.1 (by simp [lengthOk, hlen]) (.inl hfrozen)
  constructor
  · intro s l p f k presence owns hfrozen hlen hb hk hid hp hnew hlist hpool value r lo hi hv
    refine exec_entryAdd_accepted owns (passes owns hfrozen hlen) hb hk hid hp hnew hlist hpool ?_
    rcases hv with ⟨h, rfl, rfl, rfl, rfl⟩ | ⟨h, n, blo, bhi, floor, wlo, whi, hn, hblo, hbhi, hfl, hwlo, hwhi, hlo, hhi,
      rfl, rfl⟩
    · exact answersEntry_fixed h
    · rw [hlo, hhi, ← lowerLimit_eq, ← upperLimit_eq]
      exact answersEntry_tunable h hn hblo hbhi hfl hwlo hwhi
  · intro s l p f owns hfrozen hlen hb
    have hpass := passes owns hfrozen hlen
    obtain ⟨c, hc, rfl, rfl⟩ := reachContext_of_ownsOpen owns hb
    obtain ⟨hears, hf, ho, -⟩ := owns
    refine ⟨fun h => ?_, fun k hk hid hkind hpres => ?_⟩
    · exact congrArg _ (State.serve_answers hears.1 hpass (ownEntryAdd_range hc ho
        (h.imp slotOf_of_gt (Or.imp_right (Or.imp refValueOf_of_gt presenceOf_of_gt)))))
    · obtain ⟨presence, hp⟩ := presenceOf_of_le hpres
      obtain ⟨value, hv⟩ := refValueOf_of_le hkind
      have hown := ownEntryAdd_eq (s := s.serving c.owner 0x31) hc ho hf hk hid hp hv
      refine ⟨fun hold => ?_, fun hnew hfull => ?_⟩
      · exact congrArg _ (State.serve_answers hears.1 hpass (hown.trans (if_pos hold)))
      · exact congrArg _ (State.serve_answers hears.1 hpass
          (hown.trans ((if_neg fun ⟨e, he, heq⟩ => hnew e he heq).trans (if_pos hfull))))

end Sys2Proof.Machine
end

/-! ## A millisecond on an empty queue (log 3) -/

section
namespace Sys2Proof.Machine

variable (s : State)

theorem step_of_empty_queue (h : s.pending = []) : step s = .next s.idleStep := by
  simp [step, h]

/-- A timer runs out in a millisecond when it has at most one left. -/
theorem hasRunOut_countDown (t : Option Nat) : hasRunOut (countDown t) = true ↔ ∃ m, t = some m ∧ m ≤ 1 := by
  cases t with
  | none => simp [hasRunOut, countDown]
  | some m => simp [hasRunOut, countDown, Nat.sub_eq_zero_iff_le]

/-! What a millisecond makes of each part. -/

theorem age_slot (k : SlotId) : s.age.slots[k] = { s.slots[k] with timer := s.slots[k].timer.map (· - 1) } := by
  simp [State.age, countDown]

theorem Link.age_eq (x : Link) : x.age = { x with gap := if x.rx = .hunt then x.gap else x.gap + 1 } := by
  obtain ⟨rx, gap, low, service, slot, tx⟩ := x
  cases rx <;> rfl

theorem age_link (l : LinkId) : s.age.link l =
    { s.link l with gap := if (s.link l).rx = .hunt then (s.link l).gap else (s.link l).gap + 1 } := by
  rw [← Link.age_eq]
  simp [State.age, State.link]

theorem Line.age_of_not_changeover {line : Line} (h : ∀ c m, line ≠ .changeover c m) : line.age = line := by
  cases line with
  | changeover c m => exact absurd rfl (h c m)
  | _ => rfl

/-! Which events are due: each when what it is about has run out. -/

theorem residencyTick_due : .residencyTick ∈ s.dueEvents ↔ s.timebase = 0 := by
  simp [State.dueEvents]

theorem presentationTimerExpiry_due (k : SlotId) :
    .presentationTimerExpiry k ∈ s.dueEvents ↔ hasRunOut s.slots[k].timer = true := by
  simp [State.dueEvents]

theorem settleTimerExpiry_due : .settleTimerExpiry ∈ s.dueEvents ↔ hasRunOut s.line.settle? = true := by
  simp [State.dueEvents]

theorem idleTimerExpiry_due :
    .idleTimerExpiry ∈ s.dueEvents ↔ ∃ c, s.enroll = some c ∧ hasRunOut c.idle = true := by
  simp [State.dueEvents, Option.any_eq_true]

theorem frameGapTimeout_due (l : LinkId) : .frameGapTimeout l ∈ s.dueEvents ↔ (s.link l).gapOver = true := by
  simp [State.dueEvents, State.link]

theorem dueEvents_are_timed (c : Instr) (h : c ∈ s.dueEvents) : c = .residencyTick ∨ c = .settleTimerExpiry ∨
    c = .idleTimerExpiry ∨ (∃ k, c = .presentationTimerExpiry k) ∨ ∃ l, c = .frameGapTimeout l := by
  simp only [State.dueEvents, List.mem_append, List.mem_ite_nil_right, List.mem_singleton, List.mem_map] at h
  rcases h with (((⟨-, h⟩ | ⟨k, -, h⟩) | ⟨-, h⟩) | ⟨-, h⟩) | ⟨l, -, h⟩
  · exact .inl h
  · exact .inr (.inr (.inr (.inl ⟨k, h.symm⟩)))
  · exact .inr (.inl h)
  · exact .inr (.inr (.inl h))
  · exact .inr (.inr (.inr (.inr ⟨l, h.symm⟩)))

/-- Settles O3: the millisecond of each timer, and for each timer the event due when it runs out. -/
theorem emptyQueuePassesAMillisecond : Obligations.EmptyQueuePassesAMillisecond := by
  unfold Obligations.EmptyQueuePassesAMillisecond
  intro s h
  refine ⟨s.idleStep, step_of_empty_queue s h, rfl, fun hlt => if_pos (by omega), fun hge => if_neg (by omega),
    residencyTick_due s.age, fun k => ⟨age_slot s k, ?_⟩, fun c m hline => ⟨?_, ?_⟩, fun hline => ⟨?_, ?_⟩, rfl, ?_,
    fun l => ⟨age_link s l, ?_⟩, dueEvents_are_timed s.age⟩
  · refine (presentationTimerExpiry_due s.age k).trans ?_
    rw [age_slot]
    exact hasRunOut_countDown _
  · exact congrArg Line.age hline
  · refine (settleTimerExpiry_due s.age).trans ?_
    have hage : s.age.line.settle? = countDown (some m) := congrArg (fun x => x.age.settle?) hline
    rw [hage, hasRunOut_countDown]
    simp
  · exact Line.age_of_not_changeover hline
  · refine mt (settleTimerExpiry_due s.age).1 ?_
    have hage : s.age.line = s.line := Line.age_of_not_changeover hline
    rw [hage]
    cases hl : s.line with
    | changeover c m => exact absurd hl (hline c m)
    | _ => exact Bool.false_ne_true
  · refine (idleTimerExpiry_due s.age).trans ?_
    simp [State.age, hasRunOut_countDown]
  · refine (frameGapTimeout_due s.age l).trans ?_
    rw [Link.gapOver_iff, age_link]
    exact and_congr_right fun hne => by simp [hne]

end Sys2Proof.Machine
end

/-! ## Bytes of a layout: what stands at an offset (R164) -/

section
namespace Sys2Proof.Machine

variable {xs ys : List Byte} {i : Nat}

theorem byteAt_append_left (h : i < xs.length) : byteAt (xs ++ ys) i = byteAt xs i := List.getD_append _ _ _ _ h

theorem byteAt_append_right (h : xs.length ≤ i) : byteAt (xs ++ ys) i = byteAt ys (i - xs.length) :=
  List.getD_append_right _ _ _ _ h

theorem half_append_left (h : i + 1 < xs.length) : half (xs ++ ys) i = half xs i := by
  rw [half, byteAt_append_left (by omega), byteAt_append_left h, half]

theorem half_append_right (h : xs.length ≤ i) : half (xs ++ ys) i = half ys (i - xs.length) := by
  rw [half, byteAt_append_right h, byteAt_append_right (by omega), Nat.sub_add_comm h, half]

theorem quad_append_left (h : i + 3 < xs.length) : quad (xs ++ ys) i = quad xs i := by
  rw [quad, half_append_left (by omega), half_append_left (by omega), quad]

theorem quad_append_right (h : xs.length ≤ i) : quad (xs ++ ys) i = quad ys (i - xs.length) := by
  rw [quad, half_append_right h, half_append_right (by omega), Nat.sub_add_comm h, quad]

theorem octet_append_left (h : i + 7 < xs.length) : octet (xs ++ ys) i = octet xs i := by
  rw [octet, quad_append_left (by omega), quad_append_left (by omega), octet]

theorem octet_append_right (h : xs.length ≤ i) : octet (xs ++ ys) i = octet ys (i - xs.length) := by
  rw [octet, quad_append_right h, quad_append_right (by omega), Nat.sub_add_comm h, octet]

/-! A written field reads back. -/

/-- The upper and the lower half of a field, put together. -/
theorem halves_append {w : Nat} (x : BitVec (w + w)) : x.extractLsb' w w ++ x.extractLsb' 0 w = x :=
  (BitVec.extractLsb'_append_extractLsb'_eq_extractLsb' (Nat.zero_add w).symm).trans BitVec.extractLsb'_eq_self

@[simp] theorem half_bytes2 (x : Word16) : half (bytes2 x) 0 = x := halves_append (w := 8) x

@[simp] theorem quad_bytes4 (x : Word32) : quad (bytes4 x) 0 = x := by
  rw [quad, bytes4, half_append_left (by decide : 0 + 1 < 2), half_append_right (by decide : 2 ≤ 0 + 2), half_bytes2]
  exact (congrArg _ (half_bytes2 _)).trans (halves_append (w := 16) x)

@[simp] theorem octet_bytes8 (x : CheckValue) : octet (bytes8 x) 0 = x := by
  rw [octet, bytes8, quad_append_left (by decide : 0 + 3 < 4), quad_append_right (by decide : 4 ≤ 0 + 4), quad_bytes4]
  exact (congrArg _ (quad_bytes4 _)).trans (halves_append (w := 32) x)

@[simp] theorem bytes2_length (x : Word16) : (bytes2 x).length = 2 := by simp [bytes2]
@[simp] theorem bytes4_length (x : Word32) : (bytes4 x).length = 4 := by simp [bytes4]
@[simp] theorem bytes8_length (x : CheckValue) : (bytes8 x).length = 8 := by simp [bytes8]
@[simp] theorem num1_length (n : Nat) : (num1 n).length = 1 := by simp [num1]
@[simp] theorem num2_length (n : Nat) : (num2 n).length = 2 := by simp [num2]
@[simp] theorem num4_length (n : Nat) : (num4 n).length = 4 := by simp [num4]
@[simp] theorem int4_length (z : Int) : (int4 z).length = 4 := by simp [int4]
@[simp] theorem set1_length {w : Nat} (x : BitVec w) : (set1 x).length = 1 := by simp [set1]

@[simp] theorem half_num2 (n : Nat) : half (num2 n) 0 = BitVec.ofNat 16 n := half_bytes2 _
@[simp] theorem quad_num4 (n : Nat) : quad (num4 n) 0 = BitVec.ofNat 32 n := quad_bytes4 _
@[simp] theorem quad_int4 (z : Int) : quad (int4 z) 0 = BitVec.ofInt 32 z := quad_bytes4 _
@[simp] theorem byteAt_num1 (n : Nat) : byteAt (num1 n) 0 = BitVec.ofNat 8 n := rfl
@[simp] theorem byteAt_set1 {w : Nat} (x : BitVec w) : byteAt (set1 x) 0 = x.setWidth 8 := rfl

theorem byteAt_zeros (n i : Nat) : byteAt (List.replicate n 0) i = 0 := by
  rw [byteAt, List.getD, List.getElem?_replicate]
  split <;> rfl

/-- A member of a set of slots made by a test. -/
theorem slotsWhere_getLsbD (g : SlotId → Bool) (k : SlotId) : (slotsWhere g).getLsbD k.val = g k := by
  rw [slotsWhere, BitVec.getLsbD_ofBoolListLE]
  match k with
  | 0 | 1 | 2 | 3 | 4 | 5 => rfl

/-- Records of four bytes one after another: the half at `j` of record `n`. -/
theorem half_flatMap_of_length {α : Type} {g : α → List Byte} (hg : ∀ x, (g x).length = 4) {j : Nat} (hj : j + 1 < 4) :
    ∀ (xs : List α) (n : Nat) (hn : n < xs.length), half (xs.flatMap g) (4 * n + j) = half (g xs[n]) j
  | x :: xs, 0, _ => by
    rw [List.flatMap_cons, half_append_left (by rw [hg]; omega)]
    simp
  | x :: xs, n + 1, hn => by
    rw [List.flatMap_cons, half_append_right (by rw [hg]; omega), hg, show 4 * (n + 1) + j - 4 = 4 * n + j by omega]
    exact half_flatMap_of_length hg hj xs n (by simpa using hn)

end Sys2Proof.Machine
end

/-! ## FORMAT-READ and ENTRY-READ (R36, R37) -/

section
namespace Sys2Proof.Machine

variable {s : State} {l : LinkId} {p : List Byte} {f : FormatNo} {k : SlotId} {c : EnrollContext}

/-! The format record (R36, section 11.6). -/

theorem tagBytes_length {tag : List Byte} (h : tag.length ≤ 12) : (tagBytes tag).length = 12 := by
  simp [tagBytes, h]

theorem byteAt_tagBytes (tag : List Byte) (j : Nat) : byteAt (tagBytes tag) j = tag.getD j 0 := by
  rcases Nat.lt_or_ge j tag.length with h | h
  · exact byteAt_append_left h
  · rw [tagBytes, byteAt_append_right h, byteAt_zeros, List.getD_eq_default _ _ h]

theorem ownerByte_length (s : State) (f : FormatNo) : (s.ownerByte f).length = 1 := by
  unfold State.ownerByte
  split
  · split <;> rfl
  · rfl

theorem listHeads_length (lists : Vector (List RefEntry) 6) : (lists.toList.flatMap listHead).length = 24 := by
  simp [List.length_flatMap, listHead]

/-- The list counts and first block ids stand four bytes apart in the order of the slots. -/
theorem half_listHeads (lists : Vector (List RefEntry) 6) (k : SlotId) :
    half (lists.toList.flatMap listHead) (4 * k.val) = BitVec.ofNat 16 lists[k].length ∧
    half (lists.toList.flatMap listHead) (4 * k.val + 2) = (lists[k].head?.map RefEntry.id).getD 0 := by
  have hlen : ∀ xs : List RefEntry, (listHead xs).length = 4 := fun _ => rfl
  have hk : k.val < lists.toList.length := by simp
  constructor
  · rw [show 4 * k.val = 4 * k.val + 0 from rfl, half_flatMap_of_length hlen (by decide) _ _ hk, listHead,
      half_append_left (by decide : 0 + 1 < 2), half_num2]
    simp
  · rw [half_flatMap_of_length hlen (by decide) _ _ hk, listHead, half_append_right (by decide : 2 ≤ 2)]
    simp

/-- The record's number, kind, state, generation and tag length: bytes 0 to 5. -/
def formatHead (s : State) (f : FormatNo) : List Byte :=
  num1 f.val ++ [(s.fmt f).kind.code, (s.fmt f).state.code] ++ bytes2 (s.genOf f) ++ num1 (s.fmt f).tag.length

/-- The settle window, the interval and the participants: bytes 18 to 21. -/
def formatFields (r : FormatRecord) : List Byte := num2 r.settle ++ num1 r.interval ++ set1 r.participants

@[simp] theorem formatHead_length : (formatHead s f).length = 6 := by simp [formatHead]

@[simp] theorem formatFields_length (r : FormatRecord) : (formatFields r).length = 4 := by
  simp [formatFields]

/-- The five parts of a format record, of 6, 12, 4, 24 and 1 bytes. -/
theorem formatBytes_eq (s : State) (f : FormatNo) : s.formatBytes f =
    formatHead s f ++ (tagBytes (s.fmt f).tag ++ (formatFields (s.fmt f) ++
      ((s.fmt f).lists.toList.flatMap listHead ++ s.ownerByte f))) := by
  simp only [State.formatBytes, formatHead, formatFields, List.append_assoc]

theorem byteAt_formatBytes_head {i : Nat} (h : i < 6) : byteAt (s.formatBytes f) i = byteAt (formatHead s f) i := by
  rw [formatBytes_eq, byteAt_append_left h]

theorem formatBytes_length (h : (s.fmt f).tag.length ≤ 12) : (s.formatBytes f).length = 47 := by
  simp only [formatBytes_eq, List.length_append, formatHead_length, tagBytes_length h, formatFields_length,
    listHeads_length, ownerByte_length]

theorem byteAt_formatBytes_tag (h : (s.fmt f).tag.length ≤ 12) {j : Nat} (hj : j < 12) :
    byteAt (s.formatBytes f) (6 + j) = (s.fmt f).tag.getD j 0 := by
  rw [formatBytes_eq, byteAt_append_right (by simp), formatHead_length, Nat.add_sub_cancel_left,
    byteAt_append_left (by rwa [tagBytes_length h]), byteAt_tagBytes]

/-- What stands from byte 18 on. -/
theorem byteAt_formatBytes_rest (h : (s.fmt f).tag.length ≤ 12) (i : Nat) : byteAt (s.formatBytes f) (18 + i) =
    byteAt (formatFields (s.fmt f) ++ ((s.fmt f).lists.toList.flatMap listHead ++ s.ownerByte f)) i := by
  rw [formatBytes_eq, ← List.append_assoc, byteAt_append_right (by simp [tagBytes_length h])]
  simp [tagBytes_length h]

theorem half_formatBytes_rest (h : (s.fmt f).tag.length ≤ 12) (i : Nat) : half (s.formatBytes f) (18 + i) =
    half (formatFields (s.fmt f) ++ ((s.fmt f).lists.toList.flatMap listHead ++ s.ownerByte f)) i := by
  simp only [half, Nat.add_assoc, byteAt_formatBytes_rest h]

theorem byteAt_formatBytes_participants (h : (s.fmt f).tag.length ≤ 12) (k : SlotId) :
    (byteAt (s.formatBytes f) 21).getLsbD k.val = true ↔ (s.fmt f).lists[k] ≠ [] := by
  have hbyte : byteAt (s.formatBytes f) 21 = (s.fmt f).participants.setWidth 8 := byteAt_formatBytes_rest h 3
  have hk : k.val < 8 := by omega
  rw [hbyte, BitVec.getLsbD_setWidth, FormatRecord.participants, slotsWhere_getLsbD]
  simp [hk]

theorem half_formatBytes_lists (h : (s.fmt f).tag.length ≤ 12) (k : SlotId) :
    half (s.formatBytes f) (22 + 4 * k.val) = BitVec.ofNat 16 (s.fmt f).lists[k].length ∧
    half (s.formatBytes f) (24 + 4 * k.val) = ((s.fmt f).lists[k].head?.map RefEntry.id).getD 0 := by
  have hin {j : Nat} (hj : j + 1 < 24) :
      half (s.formatBytes f) (18 + (4 + j)) = half ((s.fmt f).lists.toList.flatMap listHead) j := by
    rw [half_formatBytes_rest h, half_append_right (by simp), formatFields_length, Nat.add_sub_cancel_left,
      half_append_left (by rwa [listHeads_length])]
  have hk := k.isLt
  constructor
  · rw [show 22 + 4 * k.val = 18 + (4 + 4 * k.val) by omega, hin (by omega), (half_listHeads _ k).1]
  · rw [show 24 + 4 * k.val = 18 + (4 + (4 * k.val + 2)) by omega, hin (by omega), (half_listHeads _ k).2]

theorem byteAt_formatBytes_owner (h : (s.fmt f).tag.length ≤ 12) :
    byteAt (s.formatBytes f) 46 = byteAt (s.ownerByte f) 0 := by
  rw [show 46 = 18 + 28 from rfl, byteAt_formatBytes_rest h, byteAt_append_right (by simp), formatFields_length,
    byteAt_append_right (by rw [listHeads_length]), listHeads_length]

theorem ownerByte_of_context (hc : s.enroll = some c) (hf : c.format = f) :
    (byteAt (s.ownerByte f) 0).toNat = c.owner.val := by
  have hlt := c.owner.isLt
  simp only [State.ownerByte, hc, if_pos hf, byteAt_num1, BitVec.toNat_ofNat]
  omega

theorem ownerByte_of_no_context (h : ∀ c, s.enroll = some c → c.format ≠ f) : byteAt (s.ownerByte f) 0 = 0xFF := by
  unfold State.ownerByte
  split
  · rename_i c hc
    rw [if_neg (h c hc)]
    rfl
  · rfl

/-! The entry readout (R37, section 11.6). -/

/-- The entry kind and the presence: bytes 0 and 1. -/
def readoutHead (e : RefEntry) : List Byte := [e.value.kindCode, e.presence.code]

@[simp] theorem readoutHead_length (e : RefEntry) : (readoutHead e).length = 2 := by simp [readoutHead]

theorem readout_fixed {e : RefEntry} {v : CheckValue} (h : e.value = .fixed v) (next : Word16) :
    e.readout next = readoutHead e ++ (bytes8 v ++ (List.replicate 26 0 ++ bytes2 next)) := by
  simp only [RefEntry.readout, readoutHead, h, List.append_assoc]

theorem readout_tunable {e : RefEntry} {n lo hi : Int} {blo bhi floor wlo whi : Nat}
    (h : e.value = .tunable n blo bhi floor wlo whi lo hi) (next : Word16) :
    e.readout next = readoutHead e ++ (List.replicate 8 0 ++ (int4 n ++ (num2 blo ++ (num2 bhi ++ (num2 floor ++
      (num4 wlo ++ (num4 whi ++ (int4 lo ++ (int4 hi ++ bytes2 next))))))))) := by
  simp only [RefEntry.readout, readoutHead, h, List.append_assoc]

/-- What every readout holds, whatever the kind of entry. -/
theorem readout_common (e : RefEntry) (next : Word16) : (e.readout next).length = 38 ∧
    byteAt (e.readout next) 1 = e.presence.code ∧ half (e.readout next) 36 = next := by
  cases h : e.value with
  | fixed v =>
    rw [readout_fixed h]
    refine ⟨rfl, rfl, ?_⟩
    simp [half_append_right, -List.reduceReplicate]
  | tunable n blo bhi floor wlo whi lo hi =>
    rw [readout_tunable h]
    refine ⟨rfl, rfl, ?_⟩
    simp [half_append_right, -List.reduceReplicate]

theorem readout_fixed_fields {e : RefEntry} {v : CheckValue} (h : e.value = .fixed v) (next : Word16) :
    byteAt (e.readout next) 0 = 0 ∧ octet (e.readout next) 2 = v ∧
      ∀ j, 10 ≤ j → j < 36 → byteAt (e.readout next) j = 0 := by
  rw [readout_fixed h]
  refine ⟨congrArg RefValue.kindCode h, ?_, fun j hlo hhi => ?_⟩
  · rw [octet_append_right (by simp), octet_append_left (by simp)]
    exact octet_bytes8 v
  · rw [byteAt_append_right (by simp; omega), byteAt_append_right (by simp; omega),
      byteAt_append_left (by simp; omega), byteAt_zeros]

theorem octet_zeros : octet (List.replicate 8 0#8) 0 = 0#64 := rfl

theorem readout_tunable_fields {e : RefEntry} {n lo hi : Int} {blo bhi floor wlo whi : Nat}
    (h : e.value = .tunable n blo bhi floor wlo whi lo hi) (next : Word16) :
    let b := e.readout next
    byteAt b 0 = 1 ∧ octet b 2 = 0 ∧ quad b 10 = BitVec.ofInt 32 n ∧ half b 14 = BitVec.ofNat 16 blo ∧
      half b 16 = BitVec.ofNat 16 bhi ∧ half b 18 = BitVec.ofNat 16 floor ∧ quad b 20 = BitVec.ofNat 32 wlo ∧
      quad b 24 = BitVec.ofNat 32 whi ∧ quad b 28 = BitVec.ofInt 32 lo ∧ quad b 32 = BitVec.ofInt 32 hi := by
  rw [readout_tunable h]
  refine ⟨congrArg RefValue.kindCode h, ?_⟩
  simp [half_append_left, half_append_right, quad_append_left, quad_append_right, octet_append_left, octet_append_right,
    octet_zeros, -List.reduceReplicate]

/-! The idle timer (R22). -/

/-- The context after a read of format `f` on link `l`: the owner's read of its OPEN format restarts the idle timer. -/
def State.contextAfterRead (s : State) (l : LinkId) (f : FormatNo) : Option EnrollContext :=
  s.enroll.map fun c =>
    if c.format = f ∧ c.owner = l ∧ (s.fmt f).state = .opened then { c with idle := some 120000 } else c

theorem readRestarts_eq (s : State) (l : LinkId) (f : FormatNo) :
    s.readRestarts l f = { s with enroll := s.contextAfterRead l f } := by
  unfold State.readRestarts State.contextAfterRead
  split
  · rename_i c hc
    rw [hc, Option.map_some]
    split
    · rfl
    · rw [← hc]
  · rename_i hc
    rw [hc, Option.map_none, ← hc]

theorem contextAfterRead_owner (hc : s.enroll = some c) (hf : c.format = f) (hl : c.owner = l)
    (ho : (s.fmt f).state = .opened) : s.contextAfterRead l f = some { c with idle := some 120000 } := by
  rw [State.contextAfterRead, hc, Option.map_some, if_pos ⟨hf, hl, ho⟩]

theorem contextAfterRead_other
    (h : ¬ ∃ c, s.enroll = some c ∧ c.format = f ∧ c.owner = l ∧ (s.fmt f).state = .opened) :
    s.contextAfterRead l f = s.enroll := by
  cases he : s.enroll with
  | none => rw [State.contextAfterRead, he, Option.map_none]
  | some c => rw [State.contextAfterRead, he, Option.map_some, if_neg fun hc => h ⟨c, he, hc⟩]

/-- A read that its block answers leaves the answer and the context after the read. -/
theorem State.serve_reads {kind : ReqKind} {own : State → State × Answer} {r : Result} {b : List Byte}
    (h : s.Attends l) (hs : s.screen l kind p = none)
    (ho : own (s.serving l (kindCode kind)) = ((s.serving l (kindCode kind)).readRestarts l f, .reply r b)) :
    s.serve l kind p own = { s.answered l (kindCode kind) r b with enroll := s.contextAfterRead l f } := by
  rw [readRestarts_eq] at ho
  exact State.serve_writes h hs ho

/-! The two reads. -/

theorem ownFormatRead_range (h : 31 < (byteAt p 0).toNat) : ownFormatRead l p s = (s, .reply .range []) := by
  simp only [ownFormatRead, formatOf_of_gt h]

theorem ownFormatRead_eq (h : (byteAt p 0).toNat = f.val) :
    ownFormatRead l p s = (s.readRestarts l f, .reply .done (s.formatBytes f)) := by
  simp only [ownFormatRead, formatOf_of_val h]

theorem ownEntryRead_range (h : 31 < (byteAt p 0).toNat ∨ 5 < (byteAt p 1).toNat ∨ half p 2 = 0) :
    ownEntryRead l p s = (s, .reply .range []) := by
  unfold ownEntryRead
  split
  · rename_i hf hk
    rw [if_pos]
    rcases h with h | h | h
    · simp [formatOf_of_gt h] at hf
    · simp [slotOf_of_gt h] at hk
    · exact h
  · rfl

/-- The result code and the payload of an ENTRY-READ, by what the search of the list found. -/
def entryReadAnswer (found : Option (RefEntry × Word16)) : Result × List Byte :=
  match found with
  | some (e, next) => (.done, e.readout next)
  | none => (.range, [])

/-- ENTRY-READ with a number, a slot and a block id: the search of the list decides the answer, not the idle timer. -/
theorem ownEntryRead_eq (hf : (byteAt p 0).toNat = f.val) (hk : (byteAt p 1).toNat = k.val) (hid : half p 2 ≠ 0) :
    ownEntryRead l p s = (s.readRestarts l f,
      .reply (entryReadAnswer (findEntry (half p 2) (s.fmt f).lists[k])).1
        (entryReadAnswer (findEntry (half p 2) (s.fmt f).lists[k])).2) := by
  simp only [ownEntryRead, formatOf_of_val hf, slotOf_of_val hk, if_neg hid]
  cases findEntry (half p 2) (s.fmt f).lists[k] <;> rfl

theorem exec_formatRead (h : s.Attends l) (hs : s.screen l .formatRead p = none) (hb : (byteAt p 0).toNat = f.val) :
    exec (.formatRead l p) s =
      .next { s.answered l 0x37 .done (s.formatBytes f) with enroll := s.contextAfterRead l f } :=
  congrArg _ (State.serve_reads h hs (ownFormatRead_eq hb))

theorem exec_entryRead (h : s.Attends l) (hs : s.screen l .entryRead p = none) (hf : (byteAt p 0).toNat = f.val)
    (hk : (byteAt p 1).toNat = k.val) (hid : half p 2 ≠ 0) :
    exec (.entryRead l p) s = .next
      { s.answered l 0x38 (entryReadAnswer (findEntry (half p 2) (s.fmt f).lists[k])).1
          (entryReadAnswer (findEntry (half p 2) (s.fmt f).lists[k])).2 with enroll := s.contextAfterRead l f } :=
  congrArg _ (State.serve_reads h hs (ownEntryRead_eq hf hk hid))

/-- Settles O20: both reads leave the context after the read; the record and the entry are read part by part. -/
theorem formatAndEntryReads : Obligations.FormatAndEntryReads := by
  unfold Obligations.FormatAndEntryReads
  constructor
  · intro s l p attends hrole hlen
    have hpass : s.screen l .formatRead p = none := State.screen_read (by decide) hrole (by simp [lengthOk, hlen])
    refine ⟨fun h => congrArg _ (State.serve_answers attends hpass (ownFormatRead_range h)), fun f hb => ?_⟩
    refine ⟨s.formatBytes f, _, exec_formatRead attends hpass hb, rfl, fun c => contextAfterRead_owner,
      contextAfterRead_other, fun htag => ⟨formatBytes_length htag, ?_, byteAt_formatBytes_head (by decide),
      byteAt_formatBytes_head (by decide), ?_, ?_, fun j => byteAt_formatBytes_tag htag, ?_,
      byteAt_formatBytes_rest htag 2, fun k => ⟨byteAt_formatBytes_participants htag k, half_formatBytes_lists htag k⟩,
      fun c hc hf => ?_, fun hc => ?_⟩⟩
    · rw [byteAt_formatBytes_head (by decide)]
      exact BitVec.eq_of_toNat_eq (by simp [← hb, formatHead, num1, byteAt])
    · exact (congrArg₂ (· ++ ·) (byteAt_formatBytes_head (by decide)) (byteAt_formatBytes_head (by decide))).trans
        (half_bytes2 _)
    · rw [byteAt_formatBytes_head (by decide)]
      exact Nat.mod_eq_of_lt (by omega)
    · exact (half_formatBytes_rest htag 0).trans (half_num2 _)
    · rw [byteAt_formatBytes_owner htag, ownerByte_of_context hc hf]
    · rw [byteAt_formatBytes_owner htag, ownerByte_of_no_context hc]
  · intro s l p attends hrole hlen
    have hpass : s.screen l .entryRead p = none := State.screen_read (by decide) hrole (by simp [lengthOk, hlen])
    refine ⟨fun h => congrArg _ (State.serve_answers attends hpass (ownEntryRead_range h)), fun f k hb hk hid => ?_⟩
    refine ⟨_, _, _, exec_entryRead attends hpass hb hk hid, rfl, fun c => contextAfterRead_owner,
      contextAfterRead_other, fun habsent => ?_, fun before e after hlist hbefore he => ?_⟩
    · rw [findEntry_none _ _ habsent]
      exact ⟨rfl, rfl⟩
    · rw [hlist, findEntry_first _ _ _ _ hbefore he]
      obtain ⟨hlength, hpresence, hnext⟩ := readout_common e ((after.head?.map RefEntry.id).getD 0)
      exact ⟨rfl, hlength, hpresence, hnext, fun v hv => readout_fixed_fields hv _,
        fun n blo bhi floor wlo whi lo hi hv => readout_tunable_fields hv _⟩

end Sys2Proof.Machine
end

/-! ## The class and score of a block (R46 to R50) -/

section
namespace Sys2Proof.Machine

/-- The floor of the percentage, as bounds without a division; a part of the width is at most 100 percent of it. -/
theorem percent_bounds {d w : Nat} (hd : 0 < d) (hw : d ≤ w) :
    100 * d / w ≤ 100 ∧ 100 * d / w * w ≤ 100 * d ∧ 100 * d < (100 * d / w + 1) * w := by
  have hpos : 0 < w := hd.trans_le hw
  refine ⟨Nat.div_le_of_le_mul ?_, Nat.div_mul_le_self .., ?_⟩
  · rw [Nat.mul_comm w]
    exact Nat.mul_le_mul_left 100 hw
  · rw [Nat.mul_comm _ w]
    exact Nat.lt_mul_div_succ _ hpos

/-- Above the nominal the score is the whole percent of the upper width (R46). -/
theorem deviationScore_above {v n : Int} {whi : Nat} (wlo : Nat) (h : n < v) (hv : v ≤ n + whi) :
    deviationScore v n wlo whi ≤ 100 ∧ (deviationScore v n wlo whi : Int) * whi ≤ 100 * (v - n) ∧
      100 * (v - n) < (deviationScore v n wlo whi + 1) * whi := by
  obtain ⟨d, hd⟩ := Int.eq_ofNat_of_zero_le (show 0 ≤ v - n by omega)
  obtain ⟨hle, hlo, hhi⟩ := percent_bounds (show 0 < d by omega) (show d ≤ whi by omega)
  simp only [deviationScore, if_pos h, hd, Int.natAbs_natCast]
  exact ⟨hle, by exact_mod_cast hlo, by exact_mod_cast hhi⟩

/-- Below the nominal it is the whole percent of the lower width (R47). -/
theorem deviationScore_below {v n : Int} {wlo : Nat} (whi : Nat) (h : v < n) (hv : n - wlo ≤ v) :
    deviationScore v n wlo whi ≤ 100 ∧ (deviationScore v n wlo whi : Int) * wlo ≤ 100 * (n - v) ∧
      100 * (n - v) < (deviationScore v n wlo whi + 1) * wlo := by
  obtain ⟨d, hd⟩ := Int.eq_ofNat_of_zero_le (show 0 ≤ n - v by omega)
  obtain ⟨hle, hlo, hhi⟩ := percent_bounds (show 0 < d by omega) (show d ≤ wlo by omega)
  have habs : (v - n).natAbs = d := by omega
  simp only [deviationScore, if_neg h.not_gt, hd, habs]
  exact ⟨hle, by exact_mod_cast hlo, by exact_mod_cast hhi⟩

variable {r : RefEntry}

theorem classifyBoth_check {c : CheckValue} (h : r.value = .fixed c) (w : CheckValue) :
    classifyBoth r (.check w) = if c = w then (.matched, some 0) else (.altered, none) := by
  simp only [classifyBoth, h]

/-- A value reported for a TUNABLE block, by its place to the nominal and the limits. -/
theorem classifyBoth_value {n lo hi : Int} {blo bhi floor wlo whi : Nat}
    (h : r.value = .tunable n blo bhi floor wlo whi lo hi) (z : Int) : classifyBoth r (.value z) =
      if z = n then (.matched, some 0)
      else if lo ≤ z ∧ z ≤ hi then (.inband, some (deviationScore z n wlo whi))
      else (.offband, some 255) := by
  simp only [classifyBoth, h]

/-- Settles O48: by the kind of entry and the report; the score of an INBAND value is the floor of a percentage, and a value
within the limits is within the widths. -/
theorem classesOfABlock : Obligations.ClassesOfABlock := by
  unfold Obligations.ClassesOfABlock
  intro r
  refine ⟨fun c h => ⟨fun w => ⟨fun e => ?_, fun e => ?_⟩, fun z => ?_, ?_⟩,
    fun n blo bhi floor wlo whi lo hi h sound => ?_, fun h => ?_, fun h => ?_, fun m => mergeWalk_nil_cons m []⟩
  · rw [classifyBoth_check h, if_pos e.symm]
  · rw [classifyBoth_check h, if_neg (Ne.symm e)]
  · simp only [classifyBoth, h]
  · simp only [classifyBoth, h]
  · rw [h] at sound
    obtain ⟨-, hlon, hnhi, -, hwlo, hwhi⟩ := sound
    refine ⟨?_, fun z hz hzhi => ⟨_, ?_, deviationScore_above wlo hz (hzhi.trans hwhi)⟩,
      fun z hzlo hz => ⟨_, ?_, deviationScore_below whi hz (hwlo.trans hzlo)⟩, fun z hz => ?_, fun ho => ?_, fun hr => ?_,
      fun w => ?_⟩
    · rw [classifyBoth_value h, if_pos rfl]
    · rw [classifyBoth_value h, if_neg hz.ne', if_pos ⟨by omega, hzhi⟩]
    · rw [classifyBoth_value h, if_neg hz.ne, if_pos ⟨hzlo, by omega⟩]
    · rw [classifyBoth_value h, if_neg (by omega), if_neg (by omega)]
    · simp only [classifyBoth, h, ho]
    · simp only [classifyBoth, h, hr]
    · simp only [classifyBoth, h]
  · simp only [mergeWalk_cons_nil, mergeWalk_nil_nil, refOnlyRecord, classifyRefOnly, h, and_self]
  · simp only [mergeWalk_cons_nil, mergeWalk_nil_nil, refOnlyRecord, classifyRefOnly, h, and_self]

end Sys2Proof.Machine
end

/-! ## The merge walk of two ascending lists (R51, R53) -/

section
namespace Sys2Proof.Machine

/-- What a walk of two ascending lists does (R51): the record it appends is that of a block id below all that are left, and
it goes on behind that block id. -/
inductive Merged : List RefEntry → List ManifestEntry → List ClassRecord → Prop
  | done : Merged [] [] []
  | both {r : RefEntry} {m : ManifestEntry} {rs ms xs} (hid : r.id = m.id) (hrs : ∀ y ∈ rs, r.id < y.id)
    (hms : ∀ y ∈ ms, r.id < y.id) (rest : Merged rs ms xs) : Merged (r :: rs) (m :: ms) (bothRecord r m :: xs)
  | refOnly {r : RefEntry} {rs ms xs} (hrs : ∀ y ∈ rs, r.id < y.id) (hms : ∀ y ∈ ms, r.id < y.id)
    (rest : Merged rs ms xs) : Merged (r :: rs) ms (refOnlyRecord r :: xs)
  | manifestOnly {m : ManifestEntry} {rs ms xs} (hrs : ∀ y ∈ rs, m.id < y.id) (hms : ∀ y ∈ ms, m.id < y.id)
    (rest : Merged rs ms xs) : Merged rs (m :: ms) (extraRecord m :: xs)

variable {rs : List RefEntry} {ms : List ManifestEntry} {xs : List ClassRecord} {r : RefEntry} {m : ManifestEntry}

theorem merged_mergeWalk : ∀ (rs : List RefEntry) (ms : List ManifestEntry), rs.Pairwise (fun a b => a.id < b.id) →
    ms.Pairwise (fun a b => a.id < b.id) → Merged rs ms (mergeWalk rs ms)
  | [], [], _, _ => .done
  | r :: rs, [], hrs, hms => by
    obtain ⟨hr, hrs⟩ := List.pairwise_cons.1 hrs
    rw [mergeWalk_cons_nil]
    exact .refOnly hr (by simp) (merged_mergeWalk rs [] hrs hms)
  | [], m :: ms, hrs, hms => by
    obtain ⟨hm, hms⟩ := List.pairwise_cons.1 hms
    rw [mergeWalk_nil_cons]
    exact .manifestOnly (by simp) hm (merged_mergeWalk [] ms hrs hms)
  | r :: rs, m :: ms, hrs, hms => by
    obtain ⟨hr, hrs'⟩ := List.pairwise_cons.1 hrs
    obtain ⟨hm, hms'⟩ := List.pairwise_cons.1 hms
    rw [mergeWalk_cons_cons]
    split
    · rename_i hid
      exact .both hid hr (hid ▸ hm) (merged_mergeWalk rs ms hrs' hms')
    · rename_i hne
      split
      · rename_i hlt
        refine .refOnly hr (fun y hy => ?_) (merged_mergeWalk rs (m :: ms) hrs' hms)
        rcases List.mem_cons.1 hy with rfl | hy
        · exact hlt
        · exact BitVec.lt_trans hlt (hm y hy)
      · rename_i hge
        have hlt : m.id < r.id := BitVec.lt_of_le_ne (BitVec.not_lt.1 hge) (Ne.symm hne)
        refine .manifestOnly (fun y hy => ?_) hm (merged_mergeWalk (r :: rs) ms hrs hms')
        rcases List.mem_cons.1 hy with rfl | hy
        · exact hlt
        · exact BitVec.lt_trans hlt (hr y hy)
termination_by rs ms => rs.length + ms.length

namespace Merged

/-- The block ids of the records are those of either list. -/
theorem ids (h : Merged rs ms xs) (id : Word16) :
    (∃ x ∈ xs, x.id = id) ↔ (∃ r ∈ rs, r.id = id) ∨ ∃ m ∈ ms, m.id = id := by
  induction h with
  | done => simp
  | both hid _ _ _ ih =>
    simp only [List.exists_mem_cons_iff, ih, bothRecord, ← hid]
    exact or_or_distrib_left
  | refOnly _ _ _ ih =>
    simp only [List.exists_mem_cons_iff, ih, refOnlyRecord]
    exact or_assoc.symm
  | manifestOnly _ _ _ ih =>
    simp only [List.exists_mem_cons_iff, ih, extraRecord]
    exact or_left_comm

/-- A block id below both lists is below the records. -/
theorem lt_of_lt (h : Merged rs ms xs) {id : Word16} (hrs : ∀ r ∈ rs, id < r.id) (hms : ∀ m ∈ ms, id < m.id) :
    ∀ x ∈ xs, id < x.id := by
  intro x hx
  rcases (h.ids x.id).1 ⟨x, hx, rfl⟩ with ⟨r, hr, e⟩ | ⟨m, hm, e⟩
  · exact e ▸ hrs r hr
  · exact e ▸ hms m hm

theorem ascending (h : Merged rs ms xs) : xs.Pairwise (fun a b => a.id < b.id) := by
  induction h with
  | done => exact .nil
  | both _ hrs hms rest ih => exact .cons (rest.lt_of_lt hrs hms) ih
  | refOnly hrs hms rest ih => exact .cons (rest.lt_of_lt hrs hms) ih
  | manifestOnly hrs hms rest ih => exact .cons (rest.lt_of_lt hrs hms) ih

/-- A block of both lists is classed from both: no step that takes an entry of one list alone can take it. -/
theorem bothRecord_mem (h : Merged rs ms xs) (hr : r ∈ rs) (hm : m ∈ ms) (hid : r.id = m.id) : bothRecord r m ∈ xs := by
  induction h with
  | done => cases hr
  | both hid' hrs hms _ ih =>
    rcases List.mem_cons.1 hr with rfl | hr <;> rcases List.mem_cons.1 hm with rfl | hm
    · exact List.mem_cons_self ..
    · exact absurd hid (BitVec.ne_of_lt (hms m hm))
    · exact absurd (hid'.trans hid.symm) (BitVec.ne_of_lt (hrs r hr))
    · exact List.mem_cons_of_mem _ (ih hr hm)
  | refOnly _ hms _ ih =>
    rcases List.mem_cons.1 hr with rfl | hr
    · exact absurd hid (BitVec.ne_of_lt (hms m hm))
    · exact List.mem_cons_of_mem _ (ih hr hm)
  | manifestOnly hrs _ _ ih =>
    rcases List.mem_cons.1 hm with rfl | hm
    · exact absurd hid.symm (BitVec.ne_of_lt (hrs r hr))
    · exact List.mem_cons_of_mem _ (ih hr hm)

theorem refOnlyRecord_mem (h : Merged rs ms xs) (hr : r ∈ rs) (hne : ∀ m ∈ ms, m.id ≠ r.id) : refOnlyRecord r ∈ xs := by
  induction h with
  | done => cases hr
  | both hid _ _ _ ih =>
    obtain ⟨hm, hne⟩ := List.forall_mem_cons.1 hne
    rcases List.mem_cons.1 hr with rfl | hr
    · exact absurd hid.symm hm
    · exact List.mem_cons_of_mem _ (ih hr hne)
  | refOnly _ _ _ ih =>
    rcases List.mem_cons.1 hr with rfl | hr
    · exact List.mem_cons_self ..
    · exact List.mem_cons_of_mem _ (ih hr hne)
  | manifestOnly _ _ _ ih => exact List.mem_cons_of_mem _ (ih hr (List.forall_mem_cons.1 hne).2)

theorem extraRecord_mem (h : Merged rs ms xs) (hm : m ∈ ms) (hne : ∀ r ∈ rs, r.id ≠ m.id) : extraRecord m ∈ xs := by
  induction h with
  | done => cases hm
  | both hid _ _ _ ih =>
    obtain ⟨hr, hne⟩ := List.forall_mem_cons.1 hne
    rcases List.mem_cons.1 hm with rfl | hm
    · exact absurd hid hr
    · exact List.mem_cons_of_mem _ (ih hm hne)
  | refOnly _ _ _ ih => exact List.mem_cons_of_mem _ (ih hm (List.forall_mem_cons.1 hne).2)
  | manifestOnly _ _ _ ih =>
    rcases List.mem_cons.1 hm with rfl | hm
    · exact List.mem_cons_self ..
    · exact List.mem_cons_of_mem _ (ih hm hne)

end Merged

/-- Settles O49: each step of the walk appends the record of the lowest block id left, so the ids rise, and a block id is
classed from both lists exactly when both hold it. -/
theorem mergeWalkExaminesEveryBlockOnce : Obligations.MergeWalkExaminesEveryBlockOnce := by
  unfold Obligations.MergeWalkExaminesEveryBlockOnce
  intro rs ms hrs hms
  have h := merged_mergeWalk rs ms hrs hms
  exact ⟨h.ascending, h.ids, fun r hr m hm => h.bothRecord_mem hr hm, fun r => h.refOnlyRecord_mem,
    fun m => h.extraRecord_mem⟩

end Sys2Proof.Machine
end

/-! ## The summary of a class sequence (R54 to R57) -/

section
namespace Sys2Proof.Machine

variable {seq : List ClassRecord} {x : ClassRecord}

theorem refuses_iff (c : BlockClass) : c.refuses = true ↔ c ∈ [.offband, .altered, .unset, .missing, .extra] := by
  cases c <;> decide

theorem countOf_eq_count (c : BlockClass) (seq : List ClassRecord) :
    countOf c seq = (seq.map ClassRecord.cls).count c := by
  rw [List.count_eq_countP, List.countP_map]
  rfl

theorem countOf_pos_iff (c : BlockClass) (seq : List ClassRecord) : 0 < countOf c seq ↔ ∃ x ∈ seq, x.cls = c := by
  simp [countOf, List.countP_pos_iff]

/-- The verdict by what the walk has met (R57). -/
theorem verdict_countsOf (seq : List ClassRecord) : (countsOf seq).verdict =
    if ∃ x ∈ seq, x.cls.refuses = true then .refused else if ∃ x ∈ seq, x.cls = .inband then .trimmed else .cleared := by
  have hrefusing : countOf .offband seq + countOf .altered seq + countOf .unset seq + countOf .missing seq +
      countOf .extra seq > 0 ↔ ∃ x ∈ seq, x.cls.refuses = true := by
    simp only [gt_iff_lt, Nat.add_pos_iff_pos_or_pos, countOf_pos_iff, refuses_iff, List.mem_cons, List.not_mem_nil,
      or_false, and_or_left, exists_or, or_assoc]
  exact if_congr hrefusing rfl (if_congr (countOf_pos_iff _ _) rfl rfl)

/-- In ascending order the refusing record of the lowest block id is the first one (R55). -/
theorem firstRefusing_of_lowest (h : seq.Pairwise (fun a b => a.id < b.id)) (hx : x ∈ seq) (hr : x.cls.refuses = true)
    (hlow : ∀ y ∈ seq, y.cls.refuses = true → x.id ≤ y.id) : firstRefusing seq = some x := by
  obtain ⟨before, after, rfl⟩ := List.append_of_mem hx
  refine List.find?_eq_some_iff_append.2 ⟨hr, before, after, rfl, fun y hy => ?_⟩
  have hlt : y.id < x.id := (List.pairwise_append.1 h).2.2 y hy x (List.mem_cons_self ..)
  have hyr : ¬ y.cls.refuses = true := fun hyr => BitVec.not_le.2 hlt (hlow y (List.mem_append_left _ hy) hyr)
  simpa using hyr

theorem firstRefusing_of_none (h : ∀ x ∈ seq, x.cls.refuses = false) : firstRefusing seq = none :=
  List.find?_eq_none.2 fun x hx => by simp [h x hx]

/-- The highest score after one more record (R56). -/
def raisedBy (h : Nat) (x : ClassRecord) : Nat := if x.cls = .inband then max h (x.score.getD 0) else h

theorem le_raisedBy (h : Nat) (x : ClassRecord) : h ≤ raisedBy h x := by
  unfold raisedBy
  split
  · exact Nat.le_max_left ..
  · exact Nat.le_refl h

theorem score_le_raisedBy (h : Nat) (hx : x.cls = .inband) : x.score.getD 0 ≤ raisedBy h x := by
  rw [raisedBy, if_pos hx]
  exact Nat.le_max_right ..

theorem raisedBy_cases (h : Nat) (x : ClassRecord) :
    raisedBy h x = h ∨ (x.cls = .inband ∧ x.score = some (raisedBy h x)) := by
  unfold raisedBy
  split
  · rename_i hx
    cases hs : x.score with
    | none => exact .inl (Nat.max_eq_left (Nat.zero_le h))
    | some n =>
      rcases Nat.le_total n h with hle | hle
      · exact .inl (Nat.max_eq_left hle)
      · exact .inr ⟨hx, congrArg some (Nat.max_eq_right hle).symm⟩
  · exact .inl rfl

/-- The highest score over the records from `h` on: at least `h` and every INBAND score, and one of them. -/
theorem foldl_raisedBy (seq : List ClassRecord) (h : Nat) : h ≤ seq.foldl raisedBy h ∧
    (∀ x ∈ seq, x.cls = .inband → x.score.getD 0 ≤ seq.foldl raisedBy h) ∧
    (seq.foldl raisedBy h = h ∨ ∃ x ∈ seq, x.cls = .inband ∧ x.score = some (seq.foldl raisedBy h)) := by
  induction seq generalizing h with
  | nil => simp
  | cons x seq ih =>
    obtain ⟨hstart, hall, hfrom⟩ := ih (raisedBy h x)
    refine ⟨(le_raisedBy h x).trans hstart,
      List.forall_mem_cons.2 ⟨fun hx => (score_le_raisedBy h hx).trans hstart, hall⟩, ?_⟩
    rw [List.exists_mem_cons_iff, List.foldl_cons]
    rcases hfrom with hsame | hmem
    · rw [hsame]
      exact (raisedBy_cases h x).imp_right .inl
    · exact .inr (.inr hmem)

/-- Settles O50: the counts are counted once, the verdict is what the counts say the walk has met, and the first refusing
record of an ascending sequence is the lowest. -/
theorem summaryOfASequence : Obligations.SummaryOfASequence := by
  unfold Obligations.SummaryOfASequence
  intro v seq hseq
  obtain ⟨-, hall, htop⟩ := foldl_raisedBy seq 0
  refine ⟨rfl, rfl, ?_, fun hnone => ?_, fun x hx hr hlow => ?_, hall, htop⟩
  · simp only [summaryOf, countsOf, countOf_eq_count]
  · have hnot : ∀ x ∈ seq, ¬ x.cls.refuses = true := fun x hx hr => hnone x hx ((refuses_iff _).1 hr)
    have hfirst : firstRefusing seq = none := firstRefusing_of_none fun x hx => Bool.eq_false_iff.2 (hnot x hx)
    refine ⟨?_, ?_, (verdict_countsOf seq).trans (if_neg fun ⟨x, hx, hr⟩ => hnot x hx hr)⟩
    · simp only [summaryOf, hfirst, Option.map_none, Option.getD_none]
    · simp only [summaryOf, hfirst, Option.map_none]
  · have hrx := (refuses_iff _).2 hr
    have hfirst : firstRefusing seq = some x :=
      firstRefusing_of_lowest hseq hx hrx fun y hy hyr => hlow y hy ((refuses_iff _).1 hyr)
    refine ⟨?_, ?_, (verdict_countsOf seq).trans (if_pos ⟨x, hx, hrx⟩)⟩
    · simp only [summaryOf, hfirst, Option.map_some, Option.getD_some]
    · simp only [summaryOf, hfirst, Option.map_some]

end Sys2Proof.Machine
end

/-! ## SLOT-READ (R93) and the verification summary (section 11.5) -/

section
namespace Sys2Proof.Machine

/-- Records of one size one after another: the byte at `j` of record `i`. -/
theorem byteAt_flatMap_of_length {α : Type} {g : α → List Byte} {n : Nat} (hg : ∀ x, (g x).length = n) {j : Nat}
    (hj : j < n) : ∀ (xs : List α) (i : Nat) (hi : i < xs.length), byteAt (xs.flatMap g) (n * i + j) = byteAt (g xs[i]) j
  | x :: xs, 0, _ => by
    rw [List.flatMap_cons, byteAt_append_left (by rw [hg]; omega), Nat.mul_zero, Nat.zero_add, List.getElem_cons_zero]
  | x :: xs, i + 1, hi => by
    have hsub : n * (i + 1) + j - n = n * i + j := by rw [Nat.mul_succ]; omega
    rw [List.flatMap_cons, byteAt_append_right (by rw [hg, Nat.mul_succ]; omega), hg, hsub, List.getElem_cons_succ]
    exact byteAt_flatMap_of_length hg hj xs i (by simpa using hi)

/-- A field of two bytes is decided by its bytes. -/
theorem half_congr {p q : List Byte} {i j : Nat} (h0 : byteAt p i = byteAt q j)
    (h1 : byteAt p (i + 1) = byteAt q (j + 1)) : half p i = half q j := by
  rw [half, h0, h1, half]

theorem bool1_eq_one (b : Bool) : byteAt (bool1 b) 0 = 1 ↔ b = true := by
  cases b <;> decide

/-- Verdict and format: bytes 0 and 1 of a summary. -/
def summaryHead (x : Summary) : List Byte := [x.verdict.code] ++ num1 x.format.val

@[simp] theorem summaryHead_length (x : Summary) : (summaryHead x).length = 2 := by simp [summaryHead]

/-- The parts of a summary, of 2, 2, eight times 2, 2 and 2 bytes. -/
theorem summary_bytes_eq (x : Summary) : x.bytes = summaryHead x ++ (bytes2 x.generation ++ (num2 x.counts.matched ++
    (num2 x.counts.inband ++ (num2 x.counts.offband ++ (num2 x.counts.altered ++ (num2 x.counts.absent ++
      (num2 x.counts.unset ++ (num2 x.counts.missing ++ (num2 x.counts.extra ++ (bytes2 x.firstBlock ++
        (classCode x.firstClass :: num1 x.highest))))))))))) := by
  simp only [Summary.bytes, ClassCounts.bytes, summaryHead, List.append_assoc, List.singleton_append]

theorem byteAt_summary_class (x : Summary) : byteAt x.bytes 22 = classCode x.firstClass := rfl

theorem half_summary (x : Summary) : half x.bytes 2 = x.generation ∧ half x.bytes 4 = BitVec.ofNat 16 x.counts.matched ∧
    half x.bytes 6 = BitVec.ofNat 16 x.counts.inband ∧ half x.bytes 8 = BitVec.ofNat 16 x.counts.offband ∧
    half x.bytes 10 = BitVec.ofNat 16 x.counts.altered ∧ half x.bytes 12 = BitVec.ofNat 16 x.counts.absent ∧
    half x.bytes 14 = BitVec.ofNat 16 x.counts.unset ∧ half x.bytes 16 = BitVec.ofNat 16 x.counts.missing ∧
    half x.bytes 18 = BitVec.ofNat 16 x.counts.extra ∧ half x.bytes 20 = x.firstBlock := by
  rw [summary_bytes_eq]
  simp [half_append_left, half_append_right]

/-- Every summary is laid out by section 11.5. -/
theorem summary_laidOut (x : Summary) : laidOut x := by
  have hformat : (BitVec.ofNat 8 x.format.val).toNat = x.format.val := Nat.mod_eq_of_lt (by omega)
  obtain ⟨hgen, hm, hi, ho, ha, hab, hu, hmi, he, hfirst⟩ := half_summary x
  exact ⟨rfl, rfl, hformat, hgen, hm, hi, ho, ha, hab, hu, hmi, he, hfirst,
    fun h => by rw [byteAt_summary_class, h]; rfl, fun c h => by rw [byteAt_summary_class, h]; rfl, rfl⟩

theorem summary_bytes_length (x : Summary) : x.bytes.length = 24 := (summary_laidOut x).1

/-! The parts of the response: 5 bytes, 25 bytes, 9 bytes and the records shown. -/

/-- Verdict, permit, hold and timer: bytes 0 to 4. -/
def Slot.readHead (x : Slot) : List Byte := [x.verdict.code] ++ bool1 x.permit ++ bool1 x.hold ++ timerBytes x.timer

@[simp] theorem Slot.readHead_length (x : Slot) : x.readHead.length = 5 := by
  unfold Slot.readHead timerBytes
  cases x.timer <;> rfl

@[simp] theorem lastAppliedBytes_length (x : Option Summary) : (lastAppliedBytes x).length = 25 := by
  cases x <;> rfl

theorem Slot.readBytes_eq (x : Slot) (start : Word16) :
    x.readBytes start = x.readHead ++ (lastAppliedBytes x.summary ++ memoryBytes x.memory start) := by
  simp only [Slot.readBytes, Slot.readHead, List.append_assoc]

variable {s : State} {l : LinkId} {p : List Byte} {k : SlotId} {start : Word16} {x : Slot}

theorem byteAt_readBytes_head {i : Nat} (h : i < 5) : byteAt (x.readBytes start) i = byteAt x.readHead i := by
  rw [Slot.readBytes_eq, byteAt_append_left (by simpa using h)]

theorem byteAt_readBytes_summary {i : Nat} (h : i < 25) :
    byteAt (x.readBytes start) (5 + i) = byteAt (lastAppliedBytes x.summary) i := by
  rw [Slot.readBytes_eq, byteAt_append_right (by simp), Slot.readHead_length, Nat.add_sub_cancel_left,
    byteAt_append_left (by simpa using h)]

theorem byteAt_readBytes_memory (i : Nat) :
    byteAt (x.readBytes start) (30 + i) = byteAt (memoryBytes x.memory start) i := by
  rw [Slot.readBytes_eq, ← List.append_assoc, byteAt_append_right (by simp)]
  simp

theorem readBytes_length : (x.readBytes start).length = 30 + (memoryBytes x.memory start).length := by
  rw [Slot.readBytes_eq, List.length_append, List.length_append, Slot.readHead_length, lastAppliedBytes_length]
  omega

/-- The summary, 24 bytes from byte 6 on. -/
theorem readBytes_summary {y : Summary} (h : x.summary = some y) : ((x.readBytes start).drop 6).take 24 = y.bytes := by
  have hsplit : x.readBytes start = (x.readHead ++ [1]) ++ (y.bytes ++ memoryBytes x.memory start) := by
    rw [Slot.readBytes_eq, h, lastAppliedBytes]
    simp only [List.append_assoc]
  rw [hsplit, List.drop_left' (by simp), List.take_left' (summary_bytes_length y)]

/-! Class memory from a starting block id on. -/

/-- The records shown, three bytes each. -/
def recordBytes (shown : List (Word16 × BlockClass)) : List Byte := shown.flatMap (fun x => bytes2 x.1 ++ [x.2.code])

theorem recordBytes_length (shown : List (Word16 × BlockClass)) : (recordBytes shown).length = 3 * shown.length := by
  simp [recordBytes, List.length_flatMap, Nat.mul_comm]

theorem byteAt_recordBytes {shown : List (Word16 × BlockClass)} {i : Nat} {r : Word16 × BlockClass}
    (h : shown[i]? = some r) {j : Nat} (hj : j < 3) :
    byteAt (recordBytes shown) (3 * i + j) = byteAt (bytes2 r.1 ++ [r.2.code]) j := by
  obtain ⟨hi, rfl⟩ := List.getElem?_eq_some_iff.1 h
  exact byteAt_flatMap_of_length (n := 3) (fun _ => rfl) hj shown i hi

/-- Presence, tag, record count, records returned and next block id: the 9 bytes before the records. -/
def memoryHead (m : ClassMemory) (shown after : List (Word16 × BlockClass)) : List Byte :=
  [1] ++ num1 m.format.val ++ bytes2 m.generation ++ num2 m.records.length ++ num1 shown.length
    ++ bytes2 ((after.head?.map Prod.fst).getD 0)

@[simp] theorem memoryHead_length (m : ClassMemory) (shown after : List (Word16 × BlockClass)) :
    (memoryHead m shown after).length = 9 := rfl

theorem memoryBytes_some (m : ClassMemory) (start : Word16) : memoryBytes (some m) start =
    memoryHead m ((m.records.filter (fun r => decide (start ≤ r.1))).take 32)
        ((m.records.filter (fun r => decide (start ≤ r.1))).drop 32)
      ++ recordBytes ((m.records.filter (fun r => decide (start ≤ r.1))).take 32) := rfl

/-- What the response holds of a class memory: presence, tag and count, then the first 32 of the records listed and the
block id of the first one left out. -/
theorem readBytes_memory {m : ClassMemory} (h : x.memory = some m) :
    let b := x.readBytes start
    byteAt b 30 = 1 ∧ (byteAt b 31).toNat = m.format.val ∧ half b 32 = m.generation ∧
      half b 34 = BitVec.ofNat 16 m.records.length ∧
      ∃ shown after : List (Word16 × BlockClass),
        m.records.filter (fun r => decide (start ≤ r.1)) = shown ++ after ∧
        shown.length ≤ 32 ∧ (after ≠ [] → shown.length = 32) ∧ (byteAt b 36).toNat = shown.length ∧
        half b 37 = (after.head?.map Prod.fst).getD 0 ∧ b.length = 39 + 3 * shown.length ∧
        ∀ (j : Nat) (r : Word16 × BlockClass), shown[j]? = some r →
          half b (39 + 3 * j) = r.1 ∧ byteAt b (41 + 3 * j) = r.2.code := by
  obtain ⟨shown, hshown⟩ : ∃ xs, xs = (m.records.filter (fun r => decide (start ≤ r.1))).take 32 := ⟨_, rfl⟩
  obtain ⟨after, hafter⟩ : ∃ xs, xs = (m.records.filter (fun r => decide (start ≤ r.1))).drop 32 := ⟨_, rfl⟩
  have hmemory : memoryBytes x.memory start = memoryHead m shown after ++ recordBytes shown := by
    rw [h, memoryBytes_some, ← hshown, ← hafter]
  have hbyte (i : Nat) : byteAt (x.readBytes start) (30 + i) = byteAt (memoryHead m shown after ++ recordBytes shown) i := by
    rw [byteAt_readBytes_memory, hmemory]
  have hhalf (i : Nat) : half (x.readBytes start) (30 + i) = half (memoryHead m shown after ++ recordBytes shown) i :=
    half_congr (hbyte i) (hbyte (i + 1))
  have hrecord {j : Nat} {r : Word16 × BlockClass} (hr : shown[j]? = some r) {i : Nat} (hi : i < 3) :
      byteAt (x.readBytes start) (39 + 3 * j + i) = byteAt (bytes2 r.1 ++ [r.2.code]) i := by
    rw [show 39 + 3 * j + i = 30 + (9 + (3 * j + i)) by omega, hbyte, byteAt_append_right (by simp), memoryHead_length,
      Nat.add_sub_cancel_left, byteAt_recordBytes hr hi]
  have hlen : shown.length ≤ 32 := hshown ▸ List.length_take_le ..
  refine ⟨hbyte 0, ?_, (hhalf 2).trans (half_bytes2 _), (hhalf 4).trans (half_num2 _), shown, after, ?_, hlen,
    fun hne => ?_, ?_, (hhalf 7).trans (half_bytes2 _), ?_, fun j r hr => ⟨?_, ?_⟩⟩
  · exact (congrArg BitVec.toNat (hbyte 1)).trans (Nat.mod_eq_of_lt (by omega))
  · rw [hshown, hafter, List.take_append_drop]
  · have hlong := mt List.drop_eq_nil_of_le (hafter ▸ hne)
    rw [hshown, List.length_take]
    omega
  · exact (congrArg BitVec.toNat (hbyte 6)).trans (Nat.mod_eq_of_lt (by omega))
  · rw [readBytes_length, hmemory, List.length_append, memoryHead_length, recordBytes_length]
    omega
  · exact (half_congr (hrecord hr (by decide : 0 < 3)) (hrecord hr (by decide : 1 < 3))).trans (half_bytes2 r.1)
  · rw [show 41 + 3 * j = 39 + 3 * j + 2 by omega]
    exact hrecord hr (by decide)

/-! The request. -/

theorem State.screen_slotRead (h : s.plan[l] = .engineering ∨ s.plan[l] = .supervisor ∨
    ∃ k : SlotId, s.plan[l] = .controller k ∧ (byteAt p 0).toNat = k.val) (hlen : p.length = 3) :
    s.screen l .slotRead p = none := by
  have hrole : roleMay s.plan[l] .slotRead p = true := by
    rcases h with h | h | ⟨k, h, hb⟩ <;> rw [h]
    · rfl
    · rfl
    · simp [roleMay, slotOf_of_val hb]
  exact State.screen_passes (by simp [lengthOk, hlen]) hrole rfl (.inr rfl)

theorem ownSlotRead_range (h : 5 < (byteAt p 0).toNat) : ownSlotRead p s = (s, .reply .range []) := by
  simp only [ownSlotRead, slotOf_of_gt h]

theorem ownSlotRead_eq (h : (byteAt p 0).toNat = k.val) :
    ownSlotRead p s = (s, .reply .done (s.slots[k].readBytes (half p 1))) := by
  simp only [ownSlotRead, slotOf_of_val h]

/-- Settles O19: the response is read part by part; the records shown are the first 32 of those listed, and what is left of
them names the next block id. -/
theorem slotReadShowsTheTracker : Obligations.SlotReadShowsTheTracker := by
  unfold Obligations.SlotReadShowsTheTracker
  intro s l p attends hlen
  refine ⟨fun hrole h => ?_, fun k hrole hb => ⟨s.slots[k].readBytes (half p 1), ?_, byteAt_readBytes_head (by decide), ?_,
    ?_, fun h => ?_, fun m h => ?_, fun h j hj => ?_, fun y h => ⟨?_, readBytes_summary h, summary_laidOut y⟩,
    fun h => ⟨?_, fun j hj => ?_⟩, fun m => readBytes_memory⟩⟩
  · have hpass : s.screen l .slotRead p = none := State.screen_slotRead (by tauto) hlen
    exact congrArg _ (State.serve_answers attends hpass (ownSlotRead_range h))
  · have hpass : s.screen l .slotRead p = none :=
      State.screen_slotRead (hrole.imp_right (Or.imp_right fun h => ⟨k, h, hb⟩)) hlen
    exact congrArg _ (State.serve_answers attends hpass (ownSlotRead_eq hb))
  · rw [byteAt_readBytes_head (by decide)]
    exact bool1_eq_one _
  · rw [byteAt_readBytes_head (by decide)]
    exact bool1_eq_one _
  · rw [byteAt_readBytes_head (by decide), byteAt_readBytes_head (by decide), Slot.readHead, h]
    exact ⟨rfl, rfl⟩
  · rw [byteAt_readBytes_head (by decide), byteAt_readBytes_head (by decide), Slot.readHead, h]
    exact ⟨rfl, rfl⟩
  · rw [byteAt_readBytes_summary hj, h]
    exact byteAt_zeros 25 j
  · rw [show 5 = 5 + 0 from rfl, byteAt_readBytes_summary (by decide), h]
    rfl
  · rw [readBytes_length, h]
    rfl
  · rw [byteAt_readBytes_memory, h]
    exact byteAt_zeros 9 j

end Sys2Proof.Machine
end

/-! ## Flags, holds and permits: what a raise and an evaluation leave (R90, R91, R135, R158) -/

section
namespace Sys2Proof.Machine

variable {s t : State}

theorem Flag.bit_lt (f : Flag) : f.bit < 9 := by cases f <;> decide

theorem Flag.bit_inj {f g : Flag} : f.bit = g.bit ↔ f = g := by
  constructor
  · cases f <;> cases g <;> decide
  · exact congrArg Flag.bit

/-- A raise sets its own flag and leaves the others (R158). -/
theorem State.raise_flagged (s : State) (f g : Flag) : (s.raise f).flagged g = (s.flagged g || decide (g = f)) := by
  have hbit : decide (g.bit = f.bit) = decide (g = f) := decide_eq_decide.2 Flag.bit_inj
  simp only [State.flagged, State.raise, BitVec.getLsbD_or, BitVec.getLsbD_twoPow, f.bit_lt, decide_true, Bool.true_and,
    eq_comm (a := f.bit), hbit]

theorem State.raiseIf_flagged (s : State) (c : Bool) (f g : Flag) :
    (s.raiseIf c f).flagged g = (s.flagged g || (c && decide (g = f))) := by
  cases c with
  | false => simp [State.raiseIf]
  | true => simpa [State.raiseIf] using s.raise_flagged f g

theorem State.held_iff (s : State) (k : SlotId) : s.held k = true ↔
    ∃ i : CounterNo, s.counters[i].enable = true ∧ s.counters[i].flag = true ∧ s.counters[i].action = .drop ∧
      s.counters[i].filter.getLsbD k.val = true := by
  simp only [State.held, List.any_eq_true, Vector.mem_toList_iff, Vector.mem_iff_getElem, Counter.trippedAs,
    Bool.and_eq_true, beq_iff_eq, and_assoc, Fin.exists_iff, Fin.getElem_fin]
  constructor
  · rintro ⟨_, ⟨i, hi, rfl⟩, h⟩
    exact ⟨i, hi, h⟩
  · rintro ⟨i, hi, h⟩
    exact ⟨_, ⟨i, hi, rfl⟩, h⟩

theorem Line.permits_iff (line : Line) :
    line.permits = true ↔ line = .run ∨ ∃ kept ret g, line = .service kept ret g := by
  cases line <;> simp [Line.permits]

theorem Verdict.releases_iff (v : Verdict) : v.releases = true ↔ v = .cleared ∨ v = .trimmed ∨ v = .stale := by
  cases v <;> decide

/-- An evaluation leaves every hold and permit as R135 and R90 give it. -/
theorem State.evalPermits_permitsFollow (s : State) : s.evalPermits.PermitsFollow := by
  intro k
  simp only [Fin.getElem_fin, State.evalPermits_slot, State.evalPermits_counters, State.evalPermits_line]
  refine ⟨s.held_iff k, ?_⟩
  simp only [permitLevel, Bool.and_eq_true, Line.permits_iff, Verdict.releases_iff, Bool.not_eq_true', and_assoc]

/-- Holds and permits follow from counters, line and trackers alone. -/
theorem State.PermitsFollow.congr (h : s.PermitsFollow) (hc : t.counters = s.counters) (hl : t.line = s.line)
    (hs : t.slots = s.slots) : t.PermitsFollow := by
  unfold State.PermitsFollow
  rw [hc, hl, hs]
  exact h

end Sys2Proof.Machine
end

/-! ## Whether an event counts, and the TRIP of events in order (R127 to R132) -/

section
namespace Sys2Proof.Machine

variable (s : State)

theorem eventBit_iff (c : BlockClass) (bit : Nat) : c.eventBit = some bit ↔ c.EventAt bit := by
  cases c <;> simp [BlockClass.eventBit, BlockClass.EventAt, eq_comm]

theorem passesThreshold_block (c : Counter) (k : SlotId) (id : Word16) (cls : BlockClass) (score : Option Nat)
    (prior : Option BlockClass) : c.passesThreshold (.block k id cls score prior) = true ↔
      (cls = .inband ∨ cls = .offband → c.Reaches (score.getD 0)) := by
  simp only [Counter.passesThreshold, Counter.Reaches, Bool.or_eq_true, beq_iff_eq]
  split
  · rename_i h
    cases c.invert <;> simp [h]
  · rename_i h
    simp [h]

theorem passesEdge_block (c : Counter) (k : SlotId) (id : Word16) (cls : BlockClass) (score : Option Nat)
    (prior : Option BlockClass) :
    c.passesEdge (.block k id cls score prior) = true ↔ (c.edge = true → prior ≠ some cls) := by
  cases h : c.edge <;> simp [Counter.passesEdge, h]

theorem passesEdge_verdictRefused (c : Counter) (k : SlotId) (prior : Verdict) :
    c.passesEdge (.verdictRefused k prior) = true ↔ (c.edge = true → prior ≠ .refused) := by
  cases h : c.edge <;> simp [Counter.passesEdge, h]

/-- An event counts by the conditions of R128. -/
theorem counts_iff (e : MonitorEvent) (i : CounterNo) : (s.counters[i]).counts s.frozen e = true ↔ e.CountsFor s i := by
  simp only [Counter.counts, MonitorEvent.CountsFor, MonitorEvent.Selected, Bool.and_eq_true, Bool.not_eq_true', and_assoc]
  refine and_congr_right fun _ => and_congr_right fun _ => ?_
  cases e with
  | block k id cls score prior =>
    simp only [passesThreshold_block, passesEdge_block, MonitorEvent.kindBit, MonitorEvent.filterBit, Option.any_eq_true,
      eventBit_iff]
  | verdictRefused k prior =>
    simp only [passesEdge_verdictRefused, MonitorEvent.kindBit, MonitorEvent.filterBit, Counter.passesThreshold,
      Option.any_some, true_and]
  | _ =>
    simp only [Counter.passesEdge, MonitorEvent.kindBit, MonitorEvent.filterBit, Counter.passesThreshold, Option.any_some,
      ite_self, and_true]

/-- An event overflows when it counts for a counter at its last value (R132). -/
theorem overflows_iff (e : MonitorEvent) :
    s.overflows e = true ↔ ∃ i : CounterNo, e.CountsFor s i ∧ s.counters[i].value = 0xFFFFFF := by
  simp only [State.overflows, List.any_eq_true, Vector.mem_toList_iff, Vector.mem_iff_getElem, Bool.and_eq_true,
    ← counts_iff, Counter.full, beq_iff_eq, Fin.exists_iff, Fin.getElem_fin]
  constructor
  · rintro ⟨_, ⟨i, hi, rfl⟩, h⟩
    exact ⟨i, hi, h⟩
  · rintro ⟨i, hi, h⟩
    exact ⟨_, ⟨i, hi, rfl⟩, h⟩

theorem State.takeEvent_flagged (e : MonitorEvent) (f : Flag) :
    (s.takeEvent e).flagged f = (s.flagged f || (s.overflows e && decide (f = .trip))) :=
  State.raiseIf_flagged { s with counters := Vector.ofFn fun i => (s.counters[i]).take s.frozen e } _ _ _

/-- Events in order leave every flag but TRIP. -/
theorem State.takeEvents_flagged_of_ne (es : List MonitorEvent) {f : Flag} (hf : f ≠ .trip) :
    (s.takeEvents es).flagged f = s.flagged f := by
  induction es generalizing s with
  | nil => rfl
  | cons e es ih => rw [State.takeEvents_cons, ih, State.takeEvent_flagged, decide_eq_false hf, Bool.and_false, Bool.or_false]

/-- TRIP is set by events in order exactly when one of them, taken where it stands, wraps a counter (R132). -/
theorem State.takeEvents_trip (es : List MonitorEvent) : (s.takeEvents es).flagged .trip = true ↔
    s.flagged .trip = true ∨
      ∃ (before after : List MonitorEvent) (e : MonitorEvent) (i : CounterNo), es = before ++ e :: after ∧
        e.CountsFor (s.takeEvents before) i ∧ (s.takeEvents before).counters[i].value = 0xFFFFFF := by
  induction es generalizing s with
  | nil => simp [State.takeEvents]
  | cons e es ih =>
    rw [State.takeEvents_cons, ih, State.takeEvent_flagged, decide_eq_true rfl, Bool.and_true, Bool.or_eq_true, overflows_iff,
      or_assoc]
    refine or_congr_right ⟨?_, ?_⟩
    · rintro (⟨i, hcounts, hfull⟩ | ⟨before, after, e', i, rfl, h⟩)
      · exact ⟨[], es, e, i, rfl, hcounts, hfull⟩
      · exact ⟨e :: before, after, e', i, rfl, h⟩
    · rintro ⟨_ | ⟨_, before⟩, after, e', i, hes, h⟩
      · cases hes
        exact .inl ⟨i, h⟩
      · cases hes
        exact .inr ⟨before, after, e', i, rfl, h⟩

end Sys2Proof.Machine
end

/-! ## What an application does, step by step (R83 to R88) -/

section
namespace Sys2Proof.Machine

variable {s t u : State} {v : Verification} {seq : List ClassRecord} {k : SlotId} {c : Changeover}

/-- The walk's verdict is one of three, so it releases or refuses (R57, R81). -/
theorem releases_summaryOf (v : Verification) (seq : List ClassRecord) :
    (summaryOf v seq).verdict.releases = decide ((summaryOf v seq).verdict ≠ .refused) := by
  have hverdict : (summaryOf v seq).verdict = (countsOf seq).verdict := rfl
  rw [hverdict, verdict_countsOf]
  split
  · rfl
  · split <;> rfl

/-! The events, then verdict, memory and summary (R83, steps 1 to 4). -/

/-- The events of an application. -/
def State.appliedEvents (s : State) (v : Verification) (seq : List ClassRecord) : List MonitorEvent :=
  applicationEvents s.slots[v.slot] v seq

theorem appliedEvents_eventsOf : eventsOf s.slots[v.slot] v seq (s.appliedEvents v seq) := by
  refine ⟨_, _, rfl, ?_, fun h => if_pos h, fun h => if_neg h⟩
  have hclass (x : ClassRecord) : (x.cls != .matched) = decide (x.cls ≠ .matched) := Bool.eq_iff_iff.2 (by simp)
  rw [List.filter_congr fun x _ => hclass x]
  rfl

/-- The state after the events and the record of the result in its tracker. -/
def State.recorded (s : State) (v : Verification) (seq : List ClassRecord) : State :=
  (s.takeEvents (s.appliedEvents v seq)).setSlot v.slot
    (((s.takeEvents (s.appliedEvents v seq)).slots[v.slot]).applied v seq)

theorem applyResult_eq (s : State) (v : Verification) (seq : List ClassRecord) : s.applyResult v seq =
    (((s.recorded v seq).timerOrReport v.slot (summaryOf v seq).verdict).raiseIf
      ((summaryOf v seq).verdict == .refused && s.slots[v.slot].verdict != .refused) .refuse).evalPermits := rfl

@[simp] theorem State.recorded_line : (s.recorded v seq).line = s.line := by simp [State.recorded]
@[simp] theorem State.recorded_active : (s.recorded v seq).active = s.active := by simp [State.recorded]
@[simp] theorem State.recorded_epoch : (s.recorded v seq).epoch = s.epoch := by simp [State.recorded]
@[simp] theorem State.recorded_fmt (f : FormatNo) : (s.recorded v seq).fmt f = s.fmt f :=
  State.fmt_congr (by simp [State.recorded]) f
theorem State.recorded_flagged (f : Flag) :
    (s.recorded v seq).flagged f = (s.takeEvents (s.appliedEvents v seq)).flagged f := rfl

/-- The tracker of the verification's slot: the result is in it, the timer is untouched. -/
theorem State.recorded_slot : (s.recorded v seq).slots[v.slot].verdict = (summaryOf v seq).verdict ∧
    (s.recorded v seq).slots[v.slot].summary = some (summaryOf v seq) ∧
    (s.recorded v seq).slots[v.slot].memory =
      some { format := v.format, generation := v.generation, records := seq.map fun x => (x.id, x.cls) } := by
  rw [State.recorded, Fin.getElem_fin, State.setSlot_slot]
  exact ⟨rfl, rfl, rfl⟩

theorem State.recorded_slot_of_ne (h : k ≠ v.slot) :
    (s.recorded v seq).slots[k].verdict = s.slots[k].verdict ∧
    (s.recorded v seq).slots[k].memory = s.slots[k].memory ∧
    (s.recorded v seq).slots[k].summary = s.slots[k].summary := by
  obtain ⟨hverdict, -, hmemory, hsummary⟩ := s.takeEvents_sameCustody (s.appliedEvents v seq) k
  rw [State.recorded, Fin.getElem_fin, State.setSlot_slot_of_ne _ _ h]
  exact ⟨hverdict, hmemory, hsummary⟩

theorem State.recorded_timer (k : SlotId) : (s.recorded v seq).slots[k].timer = s.slots[k].timer := by
  obtain ⟨-, htimer, -, -⟩ := s.takeEvents_sameCustody (s.appliedEvents v seq) k
  by_cases h : k = v.slot
  · subst h
    rw [State.recorded, Fin.getElem_fin, State.setSlot_slot]
    exact htimer
  · rw [State.recorded, Fin.getElem_fin, State.setSlot_slot_of_ne _ _ h]
    exact htimer

/-! The timer in RUN and SERVICE, the report in CHANGEOVER and STALLED (R83, step 5). -/

/-- A line is in NOFORMAT, holds permits, or changes over. -/
theorem Line.cases (line : Line) : line = .noFormat ∨ (line = .run ∨ ∃ kept ret g, line = .service kept ret g) ∨
    ∃ c, line.changeover? = some c := by
  cases line <;> simp [Line.changeover?]

theorem State.timerOrReport_timer (h : s.line = .run ∨ ∃ kept ret g, s.line = .service kept ret g) (verdict : Verdict) :
    s.timerOrReport k verdict = s.setSlot k { s.slots[k] with timer := s.timerAfter verdict } := by
  rcases h with h | ⟨kept, ret, g, h⟩ <;> simp only [State.timerOrReport, h]

/-- The line with another changeover context, in the same phase. -/
def Line.withContext (line : Line) (c : Changeover) : Line :=
  match line with
  | .changeover _ m => .changeover c m
  | .stalled _ => .stalled c
  | .noFormat | .run | .service .. => line

/-- A report commits when it completes the ready set, and changes the ready set alone otherwise (R103, R104). -/
theorem State.timerOrReport_report (h : s.line.changeover? = some c) (verdict : Verdict) :
    s.timerOrReport k verdict =
      if (c.report k verdict.releases).ready = c.participants then s.commit (c.report k verdict.releases)
      else { s with line := s.line.withContext (c.report k verdict.releases) } := by
  cases hline : s.line with
  | changeover c' m =>
    obtain rfl : c' = c := by simpa [hline, Line.changeover?] using h
    simp only [State.timerOrReport, State.reportReady, hline, Line.withContext]
  | stalled c' =>
    obtain rfl : c' = c := by simpa [hline, Line.changeover?] using h
    simp only [State.timerOrReport, State.reportReady, hline, Line.withContext]
  | _ => simp [hline, Line.changeover?] at h

/-- The report of a participant sets its own bit of the ready set (R103). -/
theorem Changeover.report_eq (h : inSet c.participants k = true) (ready : Bool) {set : SlotSet}
    (hset : ∀ j : SlotId, set.getLsbD j.val = if j = k then ready else c.ready.getLsbD j.val) :
    c.report k ready = { c with ready := set } := by
  rw [Changeover.report, if_pos h]
  congr 1
  refine BitVec.eq_of_getLsbD_eq fun i hi => ?_
  have hval : i = k.val ↔ (⟨i, hi⟩ : SlotId) = k := by rw [Fin.ext_iff]
  rw [hset ⟨i, hi⟩]
  cases ready <;> by_cases hik : i = k.val <;> simp [hik, hi, ← hval]

/-- A tracker after a commit (R105). -/
theorem State.commit_slot (s : State) (c : Changeover) (k : SlotId) :
    (s.commit c).slots[k].memory = s.slots[k].memory ∧ (s.commit c).slots[k].summary = s.slots[k].summary ∧
    (inSet c.participants k = true → (s.commit c).slots[k].verdict = s.slots[k].verdict ∧
      (s.commit c).slots[k].timer = some (1000 * (s.fmt c.target).interval)) ∧
    (inSet c.participants k = false → (s.commit c).slots[k].verdict = .outside ∧ (s.commit c).slots[k].timer = none) := by
  simp only [State.commit, Fin.getElem_fin, State.evalPermits_slot, State.raise_slots, Vector.getElem_ofFn]
  split
  · rename_i hin
    exact ⟨rfl, rfl, fun _ => ⟨rfl, rfl⟩, fun hout => absurd hin (Bool.eq_false_iff.1 hout)⟩
  · rename_i hout
    exact ⟨rfl, rfl, fun hin => absurd hin hout, fun _ => ⟨rfl, rfl⟩⟩

theorem State.commit_flagged (c : Changeover) (f : Flag) :
    (s.commit c).flagged f = (s.flagged f || decide (f = .commit)) := by
  unfold State.commit
  exact State.raise_flagged ..

end Sys2Proof.Machine
end

/-! ## COMPARISON_END (R77, R82 to R86, R92, R103 to R105) -/

section
namespace Sys2Proof.Machine

variable {s t u : State} {l : LinkId} {v : Verification} {seq : List ClassRecord} {k : SlotId} {c : Changeover} {r : Result}

/-! What an application leaves of trackers, counters and flags, whatever the line does with it. -/

/-- Step 5 of R83 keeps the counters, every memory and summary, the verdict of the slot of the result, and every flag but
COMMIT. -/
structure KeepsResult (k : SlotId) (s t : State) : Prop where
  counters : t.counters = s.counters
  memory : ∀ j : SlotId, t.slots[j].memory = s.slots[j].memory
  summary : ∀ j : SlotId, t.slots[j].summary = s.slots[j].summary
  verdict : t.slots[k].verdict = s.slots[k].verdict
  flagged : ∀ f : Flag, f ≠ .commit → t.flagged f = s.flagged f

/-- The trackers after a write of one timer. -/
theorem State.setSlot_timer (k j : SlotId) (timer : Option Nat) :
    (s.setSlot k { s.slots[k] with timer := timer }).slots[j] =
      { s.slots[j] with timer := if j = k then timer else s.slots[j].timer } := by
  by_cases h : j = k
  · subst h
    rw [if_pos rfl, Fin.getElem_fin, State.setSlot_slot]
  · rw [if_neg h, Fin.getElem_fin, State.setSlot_slot_of_ne _ _ h]
    rfl

theorem timerOrReport_keepsResult (verdict : Verdict)
    (hpart : ∀ c, s.line.changeover? = some c → inSet c.participants k = true) :
    KeepsResult k s (s.timerOrReport k verdict) := by
  rcases s.line.cases with h | h | ⟨c, h⟩
  · have hnone : s.timerOrReport k verdict = s := by simp only [State.timerOrReport, h]
    rw [hnone]
    exact ⟨rfl, fun _ => rfl, fun _ => rfl, rfl, fun _ _ => rfl⟩
  · rw [State.timerOrReport_timer h]
    exact ⟨rfl, fun j => by rw [State.setSlot_timer], fun j => by rw [State.setSlot_timer], by rw [State.setSlot_timer],
      fun _ _ => rfl⟩
  · rw [State.timerOrReport_report h]
    split
    · have hin : inSet (c.report k verdict.releases).participants k = true := by
        rw [Changeover.report, if_pos (hpart c h)]
        exact hpart c h
      obtain ⟨-, -, participant, -⟩ := s.commit_slot (c.report k verdict.releases) k
      refine ⟨rfl, fun j => (State.commit_slot ..).1, fun j => ?_, (participant hin).1, fun f hf => ?_⟩
      · obtain ⟨-, hsummary, -⟩ := s.commit_slot (c.report k verdict.releases) j
        exact hsummary
      · rw [State.commit_flagged, decide_eq_false hf, Bool.or_false]
    · exact ⟨rfl, fun _ => rfl, fun _ => rfl, rfl, fun _ _ => rfl⟩

/-- The state after step 5 of R83. -/
def State.reported (s : State) (v : Verification) (seq : List ClassRecord) : State :=
  (s.recorded v seq).timerOrReport v.slot (summaryOf v seq).verdict

theorem reported_keepsResult (hpart : ∀ c, s.line.changeover? = some c → inSet c.participants v.slot = true) :
    KeepsResult v.slot (s.recorded v seq) (s.reported v seq) :=
  timerOrReport_keepsResult _ (by rwa [State.recorded_line])

/-- In RUN and SERVICE step 5 sets the slot's timer (R88). -/
theorem reported_of_permits (h : s.line = .run ∨ ∃ kept ret g, s.line = .service kept ret g) :
    s.reported v seq = (s.recorded v seq).setSlot v.slot
      { (s.recorded v seq).slots[v.slot] with timer := (s.recorded v seq).timerAfter (summaryOf v seq).verdict } :=
  State.timerOrReport_timer (by rwa [State.recorded_line]) _

/-- In CHANGEOVER and STALLED step 5 commits, or changes the ready set alone (R103, R104). -/
theorem reported_of_changeover (h : s.line.changeover? = some c) (hin : inSet c.participants v.slot = true)
    {ready : SlotSet} (hset : ∀ k : SlotId, ready.getLsbD k.val =
      (if k = v.slot then decide ((summaryOf v seq).verdict ≠ .refused) else c.ready.getLsbD k.val)) :
    s.reported v seq =
      if ready = c.participants then (s.recorded v seq).commit { c with ready := ready }
      else { s.recorded v seq with line := s.line.withContext { c with ready := ready } } := by
  have hreport := Changeover.report_eq hin (summaryOf v seq).verdict.releases (by rwa [releases_summaryOf])
  rw [State.reported, State.timerOrReport_report (c := c) (by rwa [State.recorded_line]), hreport, State.recorded_line]

/-! The whole application: step 5, then REFUSE and the permits. -/

@[simp] theorem applyResult_line : (s.applyResult v seq).line = (s.reported v seq).line := by
  simp [applyResult_eq, State.reported]
@[simp] theorem applyResult_active : (s.applyResult v seq).active = (s.reported v seq).active := by
  simp [applyResult_eq, State.reported]
@[simp] theorem applyResult_epoch : (s.applyResult v seq).epoch = (s.reported v seq).epoch := by
  simp [applyResult_eq, State.reported]
@[simp] theorem applyResult_counters : (s.applyResult v seq).counters = (s.reported v seq).counters := by
  simp [applyResult_eq, State.reported]

/-- Verdict, timer, memory and summary of each tracker after an application are those that step 5 left. -/
theorem applyResult_sameCustody (s : State) (v : Verification) (seq : List ClassRecord) :
    (s.reported v seq).SameCustody (s.applyResult v seq) := by
  intro k
  simp only [applyResult_eq, State.reported, Fin.getElem_fin, State.evalPermits_slot, State.raiseIf_slots, and_self]

theorem applyResult_flagged (s : State) (v : Verification) (seq : List ClassRecord) (f : Flag) :
    (s.applyResult v seq).flagged f = ((s.reported v seq).flagged f ||
      (((summaryOf v seq).verdict == .refused && s.slots[v.slot].verdict != .refused) && decide (f = .refuse))) := by
  rw [applyResult_eq, State.reported, ← State.raiseIf_flagged]
  rfl

/-- Of the flags but COMMIT an application sets TRIP by its events and REFUSE by its verdict (R86, R132). -/
theorem applyResult_flagged_of_ne (hpart : ∀ c, s.line.changeover? = some c → inSet c.participants v.slot = true)
    {f : Flag} (hf : f ≠ .commit) :
    (s.applyResult v seq).flagged f = ((s.takeEvents (s.appliedEvents v seq)).flagged f ||
      (((summaryOf v seq).verdict == .refused && s.slots[v.slot].verdict != .refused) && decide (f = .refuse))) := by
  rw [applyResult_flagged, (reported_keepsResult hpart).flagged f hf, State.recorded_flagged]

/-- The tracker of the slot of the result (R83). -/
theorem applyResult_slot (hpart : ∀ c, s.line.changeover? = some c → inSet c.participants v.slot = true) :
    (s.applyResult v seq).slots[v.slot].verdict = (summaryOf v seq).verdict ∧
    (s.applyResult v seq).slots[v.slot].summary = some (summaryOf v seq) ∧
    (s.applyResult v seq).slots[v.slot].memory =
      some { format := v.format, generation := v.generation, records := seq.map fun x => (x.id, x.cls) } := by
  have keeps := reported_keepsResult (seq := seq) hpart
  obtain ⟨hverdict, -, hmemory, hsummary⟩ := applyResult_sameCustody s v seq v.slot
  rw [hverdict, hsummary, hmemory, keeps.verdict, keeps.summary, keeps.memory]
  exact State.recorded_slot

/-- The trackers of the other slots keep memory and summary. -/
theorem applyResult_slot_of_ne (hpart : ∀ c, s.line.changeover? = some c → inSet c.participants v.slot = true)
    (hk : k ≠ v.slot) : (s.applyResult v seq).slots[k].memory = s.slots[k].memory ∧
      (s.applyResult v seq).slots[k].summary = s.slots[k].summary := by
  have keeps := reported_keepsResult (seq := seq) hpart
  obtain ⟨-, -, hmemory, hsummary⟩ := applyResult_sameCustody s v seq k
  rw [hmemory, hsummary, keeps.memory, keeps.summary]
  exact (State.recorded_slot_of_ne hk).2

/-- All that an application can change. -/
theorem applyResult_frame (s : State) (v : Verification) (seq : List ClassRecord) : s.applyResult v seq =
    { s with
      counters := (s.applyResult v seq).counters
      slots := (s.applyResult v seq).slots
      attention := (s.applyResult v seq).attention
      line := (s.applyResult v seq).line
      active := (s.applyResult v seq).active
      epoch := (s.applyResult v seq).epoch } := by
  generalize ht : s.applyResult v seq = t
  refine (State.mk.injEq ..).mpr ?_
  subst ht
  simp

/-! The end of the comparison: response, buffer, queue and marker. -/

/-- The comparison of link `l` is over: its response is produced, its buffer is IDLE, the oldest waiting verification is
under comparison, and the marker waits for the link no more (R76, R77, R110). -/
def State.comparisonEnded (l : LinkId) (r : Result) (payload : List Byte) (s : State) : State :=
  { s.completed l 0x12 r payload with
    buffers := s.buffers.set l .idle
    comparing := s.queue.head?
    queue := s.queue.tail
    planWaits := s.planWaits &&& ~~~BitVec.twoPow 8 l.val }

/-! What the end of a comparison leaves. -/

section
variable (s : State) (l : LinkId) (r : Result) (payload : List Byte)

@[simp] theorem comparisonEnded_slots : (s.comparisonEnded l r payload).slots = s.slots := rfl
@[simp] theorem comparisonEnded_counters : (s.comparisonEnded l r payload).counters = s.counters := rfl
@[simp] theorem comparisonEnded_line : (s.comparisonEnded l r payload).line = s.line := rfl
@[simp] theorem comparisonEnded_active : (s.comparisonEnded l r payload).active = s.active := rfl
@[simp] theorem comparisonEnded_epoch : (s.comparisonEnded l r payload).epoch = s.epoch := rfl
@[simp] theorem comparisonEnded_flagged (f : Flag) : (s.comparisonEnded l r payload).flagged f = s.flagged f := rfl

end

theorem endComparison_eq (ho : s.offer v seq = (u, r)) (ha : u.Awaits l 0x12) :
    s.endComparison l v seq = u.comparisonEnded l r (summaryOf v seq).bytes := by
  simp only [State.endComparison, ho, State.startComparison_eq, State.respond_comparing, if_true]
  simp only [State.respond]
  rw [Link.respond_eq (kind := 0x12) (by exact ha)]
  rfl

theorem exec_comparisonEnd (hc : s.comparing = some l) (hb : s.buffers[l] = .verifying v) :
    exec .comparisonEnd s = .next (s.endComparison l v (s.sequenceOf v)) := by
  show execComparisonEnd s = _
  simp only [execComparisonEnd, hc, hb]

theorem comparisonEnded_movedOn (hb : u.buffers = s.buffers) (hq : u.queue = s.queue) (hw : u.planWaits = s.planWaits)
    (payload : List Byte) : comparatorMovedOn s (u.comparisonEnded l r payload) l := by
  unfold State.comparisonEnded
  rw [hb, hq, hw]
  refine ⟨rfl, rfl, rfl, fun m => ?_⟩
  have hval : m.val = l.val ↔ m = l := Fin.ext_iff.symm
  by_cases h : m = l <;> simp [hval, h]

/-- The end of a comparison over a state that differs in what an application can change. -/
theorem comparisonEnded_frame (h : u = { s with
    counters := u.counters, slots := u.slots, attention := u.attention, line := u.line, active := u.active,
    epoch := u.epoch }) (payload : List Byte) : u.comparisonEnded l r payload =
      { s.completed l 0x12 r payload with
        buffers := (u.comparisonEnded l r payload).buffers
        comparing := (u.comparisonEnded l r payload).comparing
        queue := (u.comparisonEnded l r payload).queue
        planWaits := (u.comparisonEnded l r payload).planWaits
        counters := (u.comparisonEnded l r payload).counters
        slots := (u.comparisonEnded l r payload).slots
        attention := (u.comparisonEnded l r payload).attention
        line := (u.comparisonEnded l r payload).line
        active := (u.comparisonEnded l r payload).active
        epoch := (u.comparisonEnded l r payload).epoch } := by
  obtain ⟨C, S, A, L, F, E, rfl⟩ : ∃ C S A L F E,
      u = { s with counters := C, slots := S, attention := A, line := L, active := F, epoch := E } :=
    ⟨_, _, _, _, _, _, h⟩
  rfl

theorem sequenceOf_walked (s : State) (v : Verification) : walked s v := fun h => by
  simp only [State.sequenceOf, h]

/-- What every applied result leaves when its comparison is over, whatever the line does with it. -/
theorem resultApplied_comparisonEnded
    (hpart : ∀ c, s.line.changeover? = some c → inSet c.participants v.slot = true) :
    resultApplied s ((s.applyResult v seq).comparisonEnded l .done (summaryOf v seq).bytes) l v seq := by
  have flags := fun {f : Flag} => applyResult_flagged_of_ne (f := f) (seq := seq) hpart
  have hcounters : (s.applyResult v seq).counters = (s.takeEvents (s.appliedEvents v seq)).counters :=
    applyResult_counters.trans (reported_keepsResult hpart).counters
  have hpermits : (s.applyResult v seq).PermitsFollow := State.evalPermits_permitsFollow _
  obtain ⟨hverdict, hsummary, hmemory⟩ := applyResult_slot (seq := seq) hpart
  refine ⟨⟨_, appliedEvents_eventsOf, ?_, ?_⟩, fun f hf => ?_, ?_, ?_, ?_, fun k hk => ?_, ?_,
    comparisonEnded_movedOn (State.applyResult_buffers ..) (State.applyResult_queue ..) (State.applyResult_planWaits ..) _,
    hpermits.congr (comparisonEnded_counters ..) (comparisonEnded_line ..) (comparisonEnded_slots ..),
    comparisonEnded_frame (applyResult_frame s v seq) _⟩
  · rw [comparisonEnded_counters, hcounters]
  · refine Iff.trans ?_ (s.takeEvents_trip (s.appliedEvents v seq))
    rw [comparisonEnded_flagged, flags (by decide)]
    simp
  · simp only [List.mem_cons, List.not_mem_nil, or_false, not_or] at hf
    obtain ⟨hrefuse, htrip, hcommit⟩ := hf
    rw [comparisonEnded_flagged, flags hcommit, decide_eq_false hrefuse, Bool.and_false, Bool.or_false,
      State.takeEvents_flagged_of_ne _ _ htrip]
  · rw [comparisonEnded_slots, hverdict]
  · rw [comparisonEnded_slots, hsummary]
  · rw [comparisonEnded_slots, hmemory]
  · rw [comparisonEnded_slots]
    exact applyResult_slot_of_ne hpart hk
  · rw [comparisonEnded_flagged, flags (by decide), State.takeEvents_flagged_of_ne _ _ (by decide)]
    simp

/-- COMPARISON_END under the recorded epoch applies the result (R82, R83). -/
theorem exec_comparisonEnd_applied (hc : s.comparing = some l) (hb : s.buffers[l] = .verifying v) (ha : s.Awaits l 0x12)
    (he : v.epoch = s.epoch) : exec .comparisonEnd s = .next
      ((s.applyResult v (s.sequenceOf v)).comparisonEnded l .done (summaryOf v (s.sequenceOf v)).bytes) := by
  have hawaits : (s.applyResult v (s.sequenceOf v)).Awaits l 0x12 := by
    rw [State.Awaits, State.link, State.applyResult_links]
    exact ha
  rw [exec_comparisonEnd hc hb, endComparison_eq (if_pos he) hawaits]

/-- Under another epoch the result is superseded (R82). -/
theorem exec_comparisonEnd_superseded (hc : s.comparing = some l) (hb : s.buffers[l] = .verifying v)
    (ha : s.Awaits l 0x12) (he : v.epoch ≠ s.epoch) : exec .comparisonEnd s = .next
      (s.comparisonEnded l .superseded (summaryOf v (s.sequenceOf v)).bytes) := by
  rw [exec_comparisonEnd hc hb, endComparison_eq (if_neg he) ha]

theorem timerAfter_summaryOf (s : State) (v : Verification) (seq : List ClassRecord) :
    s.timerAfter (summaryOf v seq).verdict =
      if (summaryOf v seq).verdict = .refused then none else some (1000 * (s.fmt s.active).interval) := by
  rw [State.timerAfter, releases_summaryOf]
  by_cases h : (summaryOf v seq).verdict = .refused
  · rw [if_pos h, if_neg (by simp [h])]
  · rw [if_neg h, if_pos (by simp [h])]
    rfl

/-- Settles O51: the epoch decides between the two ends of the comparison; in RUN and SERVICE step 5 of the application
writes one timer. -/
theorem resultsCountUnderTheirEpoch : Obligations.ResultsCountUnderTheirEpoch := by
  unfold Obligations.ResultsCountUnderTheirEpoch
  refine ⟨⟨fun s hc => ?_, fun s l v hc hb ha he => ?_⟩, fun s l v hc hb ha he hline => ?_⟩
  · show execComparisonEnd s = .next s
    simp only [execComparisonEnd, hc]
  · exact ⟨_, exec_comparisonEnd_superseded hc hb ha he, rfl, comparisonEnded_movedOn rfl rfl rfl _, sequenceOf_walked s v,
      summary_laidOut _⟩
  · have hnone : ∀ c, s.line.changeover? ≠ some c := by
      rcases hline with h | ⟨kept, ret, g, h⟩ <;> simp [h, Line.changeover?]
    have hreported := reported_of_permits (v := v) (seq := s.sequenceOf v) hline
    have custody := applyResult_sameCustody s v (s.sequenceOf v)
    refine ⟨_, exec_comparisonEnd_applied hc hb ha he, resultApplied_comparisonEnded fun c h => absurd h (hnone c),
      sequenceOf_walked s v, summary_laidOut _, ?_, ?_, ?_, ?_, ?_, fun k hk => ?_⟩
    · rw [comparisonEnded_line, applyResult_line, hreported, State.setSlot_line, State.recorded_line]
    · rw [comparisonEnded_active, applyResult_active, hreported, State.setSlot_active, State.recorded_active]
    · rw [comparisonEnded_epoch, applyResult_epoch, hreported, State.setSlot_epoch, State.recorded_epoch]
    · rw [comparisonEnded_flagged, applyResult_flagged, hreported, decide_eq_false (by decide), Bool.and_false,
        Bool.or_false]
      exact State.takeEvents_flagged_of_ne _ _ (by decide)
    · obtain ⟨-, htimer, -, -⟩ := custody v.slot
      rw [comparisonEnded_slots, htimer, hreported, State.setSlot_timer, if_pos rfl, timerAfter_summaryOf,
        State.recorded_active, State.recorded_fmt]
    · obtain ⟨hverdict, htimer, -, -⟩ := custody k
      rw [comparisonEnded_slots, hverdict, htimer, hreported, State.setSlot_timer, if_neg hk]
      exact ⟨(State.recorded_slot_of_ne hk).1, State.recorded_timer k⟩

/-- Settles O52: step 5 reports a participant; the ready set after it is `ready`, and step 5 commits when that is complete. -/
theorem completeReadySetCommits : Obligations.CompleteReadySetCommits := by
  unfold Obligations.CompleteReadySetCommits
  intro s l v c hc hb ha he hline hin
  have hpart : ∀ c', s.line.changeover? = some c' → inSet c'.participants v.slot = true := fun c' h => by
    rw [hline] at h
    cases h
    exact hin
  have custody := applyResult_sameCustody s v (s.sequenceOf v)
  refine ⟨_, exec_comparisonEnd_applied hc hb ha he, resultApplied_comparisonEnded hpart, sequenceOf_walked s v,
    summary_laidOut _, fun ready hset => ?_⟩
  have hreported := reported_of_changeover hline hin hset
  refine ⟨fun hready => ?_, fun hready => ?_⟩
  · rw [if_pos hready] at hreported
    refine ⟨?_, ?_, ?_, ?_, fun k => ?_⟩
    · rw [comparisonEnded_line, applyResult_line, hreported]
      rfl
    · rw [comparisonEnded_active, applyResult_active, hreported]
      rfl
    · rw [comparisonEnded_epoch, applyResult_epoch, hreported, ← State.recorded_epoch (s := s) (v := v)]
      rfl
    · rw [comparisonEnded_flagged, applyResult_flagged, hreported, State.commit_flagged]
      simp
    · obtain ⟨hverdict, htimer, -, -⟩ := custody k
      obtain ⟨-, -, participant, outside⟩ :=
        (s.recorded v (s.sequenceOf v)).commit_slot { c with ready := ready } k
      rw [comparisonEnded_slots, hverdict, htimer, hreported]
      refine ⟨fun h => ⟨?_, fun hk => ?_⟩, outside⟩
      · rw [(participant h).2, State.recorded_fmt]
      · rw [(participant h).1, (State.recorded_slot_of_ne hk).1]
  · rw [if_neg hready] at hreported
    refine ⟨?_, ?_, ?_, fun m h => ?_, fun h => ?_, fun k => ?_⟩
    · rw [comparisonEnded_active, applyResult_active, hreported]
      exact State.recorded_active
    · rw [comparisonEnded_epoch, applyResult_epoch, hreported]
      exact State.recorded_epoch
    · rw [comparisonEnded_flagged, applyResult_flagged, hreported, decide_eq_false (by decide), Bool.and_false,
        Bool.or_false]
      exact State.takeEvents_flagged_of_ne _ _ (by decide)
    · rw [comparisonEnded_line, applyResult_line, hreported, h]
      rfl
    · rw [comparisonEnded_line, applyResult_line, hreported, h]
      rfl
    · obtain ⟨hverdict, htimer, -, -⟩ := custody k
      rw [comparisonEnded_slots, hverdict, htimer, hreported]
      exact ⟨State.recorded_timer k, fun hk => (State.recorded_slot_of_ne hk).1⟩

end Sys2Proof.Machine
end

/-! ## The tables of a request's checks (R148 to R151) -/

section
namespace Sys2Proof.Machine

theorem slotOf_eq_some {b : Byte} {k : SlotId} : slotOf b = some k ↔ b.toNat = k.val := by
  unfold slotOf
  split
  · simp [Fin.ext_iff]
  · simp only [reduceCtorEq, false_iff]
    omega

theorem Role.slot?_isSome_iff (role : Role) : role.slot?.isSome = true ↔ ∃ own, role = .controller own := by
  cases role <;> simp [Role.slot?]

/-- Only a CONTROLLER link has a slot for a test to pass. -/
theorem Role.slot?_any_eq_false (role : Role) (g : SlotId → Bool) :
    role.slot?.any g = false ↔ ∀ own, role = .controller own → g own = false := by
  cases role <;> simp [Role.slot?]

/-- Some counter passes a test. -/
theorem any_counters_iff (counters : Vector Counter 4) (g : Counter → Bool) :
    counters.toList.any g = true ↔ ∃ i : CounterNo, g counters[i] = true := by
  simp only [List.any_eq_true, Vector.mem_toList_iff, Vector.mem_iff_getElem, Fin.exists_iff, Fin.getElem_fin]
  constructor
  · rintro ⟨_, ⟨i, hi, rfl⟩, h⟩
    exact ⟨i, hi, h⟩
  · rintro ⟨i, hi, h⟩
    exact ⟨_, ⟨i, hi, rfl⟩, h⟩

/-! Each table, by the kind of request. -/

/-- The allowed lengths (R148 check 3, section 11.2), and those of a MANIFEST-PART (R63). -/
theorem lengthOk_iff (k : ReqKind) (p : List Byte) : lengthOk k p = true ↔
    (k ∈ [.ident, .statusRead, .manifestEnd, .lineExtend, .lineAbandon, .serviceLeave, .lineRestart, .planRead,
      .monitorRead] ∧ p.length = 0) ∨
    (k ∈ [.lineChange, .formatSeal, .formatDiscard, .formatRetire, .formatRead] ∧ p.length = 1) ∨
    (k ∈ [.manifestBegin, .attentionClear, .formatOpen] ∧ p.length = 2) ∨
    (k ∈ [.slotRead, .serviceEnter] ∧ p.length = 3) ∨ (k ∈ [.entryDrop, .entryRead] ∧ p.length = 4) ∨
    (k = .tripClear ∧ p.length = 5) ∨ (k = .monitorSet ∧ p.length = 13) ∨
    (k ∈ [.entryAdd, .planWrite] ∧ p.length = 16) ∨ (k = .formatSet ∧ p.length = 17) ∨
    (k = .manifestPart ∧ ∃ n, 1 ≤ n ∧ n ≤ 16 ∧ (byteAt p 0).toNat = n ∧ p.length = 1 + 11 * n) := by
  cases k with
  | manifestPart => simp [lengthOk, and_assoc]
  | _ => simp [lengthOk]

/-- The role table (R149). -/
theorem roleMay_iff (role : Role) (k : ReqKind) (p : List Byte) : roleMay role k p = true ↔
    k = .ident ∨ (k = .statusRead ∧ role ≠ .unbound) ∨
    (k = .slotRead ∧ (role = .engineering ∨ role = .supervisor ∨
      ∃ own : SlotId, role = .controller own ∧ (byteAt p 0).toNat = own.val)) ∨
    (k ∈ [.manifestBegin, .manifestPart, .manifestEnd] ∧ ∃ own, role = .controller own) ∨
    (k ∈ [.lineChange, .lineExtend, .lineAbandon, .serviceEnter, .serviceLeave, .lineRestart, .attentionClear] ∧
      role = .supervisor) ∨
    (k ∈ [.formatOpen, .entryAdd, .entryDrop, .formatSet, .formatSeal, .formatDiscard, .formatRetire, .planWrite,
      .monitorSet, .tripClear] ∧ role = .engineering) ∨
    (k ∈ [.formatRead, .entryRead, .planRead, .monitorRead] ∧ (role = .engineering ∨ role = .supervisor)) := by
  cases k with
  | slotRead => cases role <;> simp [roleMay, slotOf_eq_some]
  | _ => simp [roleMay, Role.slot?_isSome_iff]

/-- The phase table (R150): what is refused. -/
theorem phaseAdmits_iff (line : Line) (role : Role) (k : ReqKind) : phaseAdmits line role k = false ↔
    (k ∈ [.lineChange, .serviceEnter] ∧ line ≠ .noFormat ∧ line ≠ .run) ∨
    (k ∈ [.lineExtend, .lineAbandon] ∧ (∀ c m, line ≠ .changeover c m) ∧ ∀ c, line ≠ .stalled c) ∨
    (k = .serviceLeave ∧ ∀ kept ret g, line ≠ .service kept ret g) ∨
    (k = .manifestBegin ∧ (line = .noFormat ∨
      ∃ kept ret g, line = .service kept ret g ∧ ∀ own : SlotId, role = .controller own → kept.getLsbD own.val = false)) ∨
    (k = .planWrite ∧ line ≠ .noFormat) := by
  cases k with
  | manifestBegin => cases line <;> simp [phaseAdmits, Role.slot?_any_eq_false, inSet]
  | lineExtend | lineAbandon => cases line <;> simp [phaseAdmits, Line.changeover?]
  | lineChange | serviceEnter | serviceLeave => cases line <;> simp [phaseAdmits]
  | _ => simp [phaseAdmits]

/-- The freeze list (R151). -/
theorem freezeRefuses_iff (k : ReqKind) (p : List Byte) : freezeRefuses k p = true ↔
    (k = .lineChange ∧ byteAt p 0 ≠ 0) ∨
    k ∈ [.serviceEnter, .formatOpen, .entryAdd, .entryDrop, .formatSeal, .formatRetire, .planWrite] := by
  cases k <;> simp [freezeRefuses]

/-- Custody is frozen by a tripped FREEZE counter (R134). -/
theorem State.frozen_iff (s : State) : s.frozen = true ↔
    ∃ i : CounterNo, s.counters[i].enable = true ∧ s.counters[i].flag = true ∧ s.counters[i].action = .freeze := by
  simp only [State.frozen, any_counters_iff, Counter.trippedAs, Bool.and_eq_true, beq_iff_eq, and_assoc]

end Sys2Proof.Machine
end

/-! ## The codes and the byte order of fields (R164) -/

section
namespace Sys2Proof.Machine

theorem kindOf_eq_some (b : Byte) (k : ReqKind) : kindOf b = some k ↔ kindCode k = b := by
  constructor
  · exact fun h => beq_iff_eq.1 (List.find?_some (p := fun k => kindCode k == b) h)
  · rintro rfl
    cases k <;> decide

theorem Role.slotCode_spec (r : Role) : (∀ k : SlotId, r = .controller k → r.slotCode.toNat = k.val) ∧
    ((∀ k, r ≠ .controller k) → r.slotCode = 0xFF) := by
  cases r with
  | controller own =>
    refine ⟨fun k h => ?_, fun h => absurd rfl (h own)⟩
    cases h
    exact Nat.mod_eq_of_lt (by omega)
  | _ => exact ⟨nofun, fun _ => rfl⟩

theorem Line.phaseCode_spec (line : Line) : (line = .noFormat → line.phaseCode = 0) ∧ (line = .run → line.phaseCode = 1) ∧
    (∀ c m, line = .changeover c m → line.phaseCode = 2) ∧ (∀ c, line = .stalled c → line.phaseCode = 3) ∧
    (∀ kept ret g, line = .service kept ret g → line.phaseCode = 4) := by
  cases line <;> simp [Line.phaseCode]

theorem codes_of_the_tables : codesOfTheTables := by
  refine ⟨fun k => ?_, kindOf_eq_some, ⟨rfl, rfl⟩, ⟨rfl, rfl, rfl, rfl⟩, ⟨rfl, rfl⟩, fun c => ?_, fun v => ?_, ⟨rfl, rfl⟩,
    ⟨rfl, rfl, rfl, fun _ => rfl⟩, Role.slotCode_spec, ⟨rfl, rfl, rfl⟩, Line.phaseCode_spec, fun f => ?_⟩
  · cases k <;> decide
  · cases c <;> decide
  · cases v <;> decide
  · cases f <;> decide

/-- Of two fields put together the first is the more significant. -/
theorem toNat_append_eq {v w : Nat} (x : BitVec v) (y : BitVec w) : (x ++ y).toNat = 2 ^ w * x.toNat + y.toNat := by
  rw [BitVec.toNat_append, Nat.shiftLeft_eq, Nat.mul_comm, Nat.two_pow_add_eq_or_of_lt y.isLt]

theorem byteAt_of_lt {p : List Byte} {i : Nat} (h : i < p.length) : p[i]? = some (byteAt p i) := by
  simp [byteAt, h]

theorem fields_most_significant_first : fieldsMostSignificantFirst := by
  have hhalf (x : Word16) (rest : List Byte) : half (bytes2 x ++ rest) 0 = x := by
    rw [half_append_left (by simp), half_bytes2]
  refine ⟨fun p i => ⟨byteAt_of_lt, toNat_append_eq _ _, toNat_append_eq _ _, toNat_append_eq _ _⟩,
    fun x rest => ⟨bytes2_length x, hhalf x rest⟩,
    fun n rest => ⟨num1_length n, rfl, num2_length n, congrArg BitVec.toNat (hhalf _ rest)⟩,
    fun z rest => ⟨int4_length z, fun hlo hhi => ?_⟩⟩
  rw [quad_append_left (by simp), quad_int4]
  exact BitVec.toInt_ofInt_eq_self (by decide) hlo (by omega)

/-- Settles O15, table by table. -/
theorem tablesOfRolePhaseAndFreeze : Obligations.TablesOfRolePhaseAndFreeze :=
  ⟨lengthOk_iff, codes_of_the_tables, fields_most_significant_first, roleMay_iff, phaseAdmits_iff, freezeRefuses_iff,
    State.frozen_iff⟩

end Sys2Proof.Machine
end

/-! ## Requests of a CONTROLLER link that write its assembly buffer (R61, R63, R66) -/

section
namespace Sys2Proof.Machine

variable {s : State} {l : LinkId} {j : SlotId} {k : ReqKind} {p payload : List Byte} {own : State → State × Answer}
  {r : Result} {b : Buffer}

@[simp] theorem State.serving_buffers (kind : Byte) : (s.serving l kind).buffers = s.buffers := rfl

/-- An owning block that writes the link's buffer and answers leaves that and the answer. -/
theorem State.serve_setsBuffer (h : s.Attends l) (hs : s.screen l k p = none)
    (ho : own (s.serving l (kindCode k)) = ((s.serving l (kindCode k)).setBuffer l b, .reply r payload)) :
    s.serve l k p own = { s.answered l (kindCode k) r payload with buffers := s.buffers.set l b } := by
  rw [State.serve_replies h hs ho, ← State.respond_serving]
  rfl

/-- The three requests of the assembler (R149). -/
def manifestKinds : List ReqKind := [.manifestBegin, .manifestPart, .manifestEnd]

/-- A request of the assembler passes for CONTROLLER, whatever the freeze, where the phase check lets it (R149 to R151). -/
theorem State.screen_manifest (hk : k ∈ manifestKinds) (h : s.Hears l (.controller j)) (hl : lengthOk k p = true)
    (hp : phaseAdmits s.line (.controller j) k = true) : s.screen l k p = none := by
  have hrole : ∀ k ∈ manifestKinds, roleMay (.controller j) k p = true := by simp [manifestKinds, roleMay, Role.slot?]
  have hfreeze : ∀ k ∈ manifestKinds, freezeRefuses k p = false := by simp [manifestKinds, freezeRefuses]
  exact State.screen_passes hl (h.2 ▸ hrole k hk) (h.2 ▸ hp) (.inr (hfreeze k hk))

end Sys2Proof.Machine
end

/-! ## MANIFEST-BEGIN (R61, R62) -/

section
namespace Sys2Proof.Machine

variable {s : State} {l : LinkId} {k : SlotId} {p : List Byte}

/-- The two bytes of a field are written as they were read. -/
theorem bytes2_half (p : List Byte) (i : Nat) : bytes2 (half p i) = [byteAt p i, byteAt p (i + 1)] := by
  rw [bytes2, half, BitVec.extractLsb'_append_eq_left, BitVec.extractLsb'_append_eq_right]

/-- A payload of two bytes is one field. -/
theorem bytes2_half_of_length (h : p.length = 2) : bytes2 (half p 0) = p := by
  obtain ⟨x, y, rfl⟩ := List.length_eq_two.1 h
  exact bytes2_half [x, y] 0

/-- MANIFEST-BEGIN passes the phase check outside NOFORMAT, in SERVICE for a kept slot (R150). -/
theorem phaseAdmits_manifestBegin {line : Line} (h : line ≠ .noFormat)
    (hkept : ∀ kept ret g, line = .service kept ret g → kept.getLsbD k.val = true) :
    phaseAdmits line (.controller k) .manifestBegin = true := by
  cases line with
  | noFormat => exact absurd rfl h
  | service kept ret g => exact hkept kept ret g rfl
  | _ => rfl

theorem ownManifestBegin_eq (h : s.plan[l] = .controller k) : ownManifestBegin l p s =
    if half p 0 = 0 ∨ 256 < (half p 0).toNat then (s, .reply .range [])
    else (s.setBuffer l (.assembling (half p 0).toNat []), .reply .done (bytes2 (half p 0) ++ num1 k.val)) := by
  rw [ownManifestBegin, h]
  rfl

/-- Settles O45: past the checks the block's outcome is one equation, whose branches are RANGE and the new assembly. -/
theorem manifestBeginOpensTheBuffer : Obligations.ManifestBeginOpensTheBuffer := by
  unfold Obligations.ManifestBeginOpensTheBuffer
  intro s l k p hears hline hkept hlen
  have hpass : s.screen l .manifestBegin p = none :=
    State.screen_manifest (by decide) hears (by simp [lengthOk, hlen]) (phaseAdmits_manifestBegin hline hkept)
  have hown := ownManifestBegin_eq (s := s.serving l 0x10) (p := p) hears.2
  refine ⟨fun hbad => ?_, fun hne hle => ?_⟩
  · exact congrArg _ (State.serve_answers hears.1 hpass (hown.trans (if_pos hbad)))
  · rw [if_neg (not_or.2 ⟨hne, hle.not_gt⟩), bytes2_half_of_length hlen] at hown
    exact congrArg _ (State.serve_setsBuffer hears.1 hpass hown)

end Sys2Proof.Machine
end

/-! ## MANIFEST-PART (R63 to R65) -/

section
namespace Sys2Proof.Machine

variable {s : State} {l : LinkId} {p : List Byte} {n d pos : Nat} {es good : List ManifestEntry} {e : ManifestEntry}
  {prev : Word16} {rest : List (Option ManifestEntry)}

/-! An entry as it is laid out (R60, section 11.5). -/

theorem manifestEntryAt_laidOut (p : List Byte) (i : Nat) : entryLaidOut p i := by
  unfold entryLaidOut manifestEntryAt
  refine ⟨fun h => if_pos h, fun h => ?_, fun h => ?_, fun h => ?_⟩
  · simp [h]
  · simp [h]
  · have hne : ∀ c : Byte, 1 ≤ c.toNat → c.toNat ≤ 3 → byteAt p (i + 2) ≠ c := by
      rintro c hlo hhi rfl
      rcases h with h | h
      · simp [h] at hlo
      · omega
    rw [if_neg (hne 1 (by decide) (by decide)), if_neg (hne 2 (by decide) (by decide)),
      if_neg (hne 3 (by decide) (by decide))]

/-! The entries of a part, up to the first that fails. -/

theorem partEntries_length (p : List Byte) : (partEntries p).length = (byteAt p 0).toNat := by simp [partEntries]

/-- A part begins with the entries read so far. -/
theorem partEntries_eq_append (hlen : good.length ≤ (byteAt p 0).toNat)
    (hgood : ∀ j (e : ManifestEntry), good[j]? = some e → manifestEntryAt p (1 + 11 * j) = some e) :
    partEntries p = good.map some ++ (partEntries p).drop good.length := by
  have htake : (partEntries p).take good.length = good.map some := by
    refine List.ext_getElem (by simp [partEntries_length, hlen]) fun j _ hj => ?_
    rw [List.length_map] at hj
    simpa [partEntries] using hgood j good[j] (List.getElem?_eq_getElem hj)
  rw [← htake, List.take_append_drop]

/-- The entry after those read so far. -/
theorem drop_partEntries (h : n < (byteAt p 0).toNat) :
    (partEntries p).drop n = manifestEntryAt p (1 + 11 * n) :: (partEntries p).drop (n + 1) := by
  rw [List.drop_eq_getElem_cons (by rwa [partEntries_length])]
  simp [partEntries]

/-! The check of the entries in order (R64). -/

theorem lastBlock_concat (es : List ManifestEntry) (e : ManifestEntry) : lastBlock (es ++ [e]) = e.id := by
  simp [lastBlock]

/-- An entry that rises above all received rises above the last, or above 0 (R59). -/
theorem lastBlock_lt (hid : e.id ≠ 0) (h : ∀ x ∈ es, x.id < e.id) : lastBlock es < e.id := by
  unfold lastBlock
  cases hlast : es.getLast? with
  | none => exact BitVec.lt_of_le_ne (Nat.zero_le _) hid.symm
  | some x => exact h x (List.mem_of_getLast? hlast)

theorem checkPart_cons (hid : e.id ≠ 0) (h : prev < e.id) :
    checkPart prev pos (some e :: rest) = (checkPart e.id (pos + 1) rest).map (e :: ·) := by
  simp only [checkPart, if_neg hid, if_neg (BitVec.not_le.2 h)]
  cases checkPart e.id (pos + 1) rest <;> rfl

/-- The check passes over entries that rise, and goes on after the last of them. -/
theorem checkPart_append (hid : ∀ e ∈ good, e.id ≠ 0) (hasc : (es ++ good).Pairwise (fun a b => a.id < b.id)) :
    checkPart (lastBlock es) pos (good.map some ++ rest) =
      (checkPart (lastBlock (es ++ good)) (pos + good.length) rest).map (good ++ ·) := by
  induction good generalizing es pos with
  | nil =>
    simp only [List.map_nil, List.nil_append, List.append_nil, List.length_nil, Nat.add_zero]
    cases checkPart (lastBlock es) pos rest <;> rfl
  | cons e good ih =>
    obtain ⟨he, hgood⟩ := List.forall_mem_cons.1 hid
    have hlt : lastBlock es < e.id :=
      lastBlock_lt he fun x hx => (List.pairwise_append.1 hasc).2.2 x hx e (List.mem_cons_self ..)
    rw [List.append_cons] at hasc
    rw [List.map_cons, List.cons_append, checkPart_cons he hlt, ← lastBlock_concat es e, ih hgood hasc,
      List.append_cons es e good, List.length_cons, Nat.add_right_comm, Nat.add_assoc]
    cases checkPart (lastBlock (es ++ [e] ++ good)) (pos + (good.length + 1)) rest <;> rfl

/-- The entries of a part read so far are those the check has passed: it goes on with the entry after them. -/
theorem checkPart_partEntries (hlen : good.length ≤ (byteAt p 0).toNat)
    (hgood : ∀ j (e : ManifestEntry), good[j]? = some e → manifestEntryAt p (1 + 11 * j) = some e ∧ e.id ≠ 0)
    (hasc : (es ++ good).Pairwise (fun a b => a.id < b.id)) : checkPart (lastBlock es) 1 (partEntries p) =
      (checkPart (lastBlock (es ++ good)) (good.length + 1) ((partEntries p).drop good.length)).map (good ++ ·) := by
  have hid : ∀ e ∈ good, e.id ≠ 0 := fun e he => by
    obtain ⟨j, hj⟩ := List.getElem?_of_mem he
    exact (hgood j e hj).2
  rw [Nat.add_comm, ← checkPart_append hid hasc, ← partEntries_eq_append hlen fun j e hj => (hgood j e hj).1]

/-- The refusal of an entry that has a bad kind, block id 0, or does not rise above the last received (R64). -/
def entryRefusal (prev : Word16) : Option ManifestEntry → Option Result
  | none => some .range
  | some e => if e.id = 0 then some .range else if e.id ≤ prev then some .order else none

/-- The check ends at an entry that is refused, with its position. -/
theorem checkPart_refused {x : Option ManifestEntry} {r : Result} (h : entryRefusal prev x = some r) :
    checkPart prev pos (x :: rest) = .error (r, pos) := by
  cases x with
  | none =>
    cases h
    rfl
  | some e =>
    simp only [entryRefusal] at h
    simp only [checkPart]
    split at h
    · cases h
      rw [if_pos ‹_›]
    · split at h
      · cases h
        rw [if_neg ‹_›, if_pos ‹_›]
      · cases h

/-! The request. -/

theorem ownManifestPart_closed (h : ∀ d es, s.buffers[l] ≠ .assembling d es) :
    ownManifestPart l p s = (s, .reply .state [0, 0, 0, 0, 0]) := by
  unfold ownManifestPart
  split
  · rename_i hb
    exact absurd hb (h _ _)
  · rfl
  · rfl

/-- More entries than declared are refused before one is examined (R64). -/
theorem ownManifestPart_tooMany (hb : s.buffers[l] = .assembling d es) (h : d < es.length + (byteAt p 0).toNat) :
    ownManifestPart l p s = (s.setBuffer l .idle, .reply .range [0, 0, 0, 0, 0]) := by
  simp only [ownManifestPart, hb, if_pos h]
  rfl

/-- A part with an entry that is refused closes the assembly (R64, R65). -/
theorem ownManifestPart_refused {r : Result} (hb : s.buffers[l] = .assembling d es)
    (hle : es.length + (byteAt p 0).toNat ≤ d) (h : checkPart (lastBlock es) 1 (partEntries p) = .error (r, pos)) :
    ownManifestPart l p s = (s.setBuffer l .idle, .reply r (num1 pos ++ [0, 0, 0, 0])) := by
  simp only [ownManifestPart, hb, if_neg hle.not_gt, h]
  rfl

theorem ownManifestPart_taken (hb : s.buffers[l] = .assembling d es) (hle : es.length + (byteAt p 0).toNat ≤ d)
    (h : checkPart (lastBlock es) 1 (partEntries p) = .ok good) : ownManifestPart l p s =
      (s.setBuffer l (.assembling d (es ++ good)), .reply .done (num2 (es.length + good.length) ++ num2 d)) := by
  simp only [ownManifestPart, hb, if_neg hle.not_gt, h]

/-- Settles O46: the check passes over the good entries; it ends with the part, which is taken, or at the entry after them,
which is refused. -/
theorem manifestPartIsTakenWhole : Obligations.ManifestPartIsTakenWhole := by
  unfold Obligations.ManifestPartIsTakenWhole
  refine ⟨manifestEntryAt_laidOut, fun s l k p n hears hlo hhi hn hlen => ?_⟩
  subst hn
  have hpass : s.screen l .manifestPart p = none :=
    State.screen_manifest (by decide) hears (by simp [lengthOk, hlen, hlo, hhi]) rfl
  refine ⟨fun hclosed => congrArg _ (State.serve_answers hears.1 hpass (ownManifestPart_closed hclosed)),
    fun d es hb => ⟨fun hmany => congrArg _ (State.serve_setsBuffer hears.1 hpass (ownManifestPart_tooMany hb hmany)),
      fun hfit good hgood hasc => ⟨fun hall => ?_, fun hfew => ?_⟩⟩⟩
  · have hcheck : checkPart (lastBlock es) 1 (partEntries p) = .ok good := by
      rw [checkPart_partEntries hall.le hgood hasc, List.drop_eq_nil_of_le (by rw [partEntries_length, hall])]
      simp [checkPart, Except.map]
    rw [← hall] at hfit ⊢
    exact congrArg _ (State.serve_setsBuffer hears.1 hpass (ownManifestPart_taken hb (hall ▸ hfit) hcheck))
  · have refused {x : Option ManifestEntry} {r : Result} (hx : manifestEntryAt p (1 + 11 * good.length) = x)
        (hr : entryRefusal (lastBlock (es ++ good)) x = some r) : exec (.manifestPart l p) s =
          .next { s.answered l 0x11 r (num1 (good.length + 1) ++ [0, 0, 0, 0]) with
                  buffers := s.buffers.set l .idle } := by
      have hcheck : checkPart (lastBlock es) 1 (partEntries p) = .error (r, good.length + 1) := by
        rw [checkPart_partEntries hfew.le hgood hasc, drop_partEntries hfew, hx, checkPart_refused hr]
        rfl
      exact congrArg _ (State.serve_setsBuffer hears.1 hpass (ownManifestPart_refused hb hfit hcheck))
    refine ⟨fun hx => refused hx rfl, fun e hx => ⟨fun hzero => refused hx (if_pos hzero), ?_⟩⟩
    rintro hid ⟨x, hlast, hle⟩
    refine refused hx ((if_neg hid).trans (if_pos ?_))
    rwa [lastBlock, hlast]

end Sys2Proof.Machine
end

/-! ## MANIFEST-END (R66 to R69, R76) -/

section
namespace Sys2Proof.Machine

variable {s : State} {l m : LinkId} {k : SlotId} {f : FormatNo} {d : Nat} {es : List ManifestEntry} {v : Verification}

/-! The verification format (R67). -/

theorem Line.changeover?_eq_some {line : Line} {c : Changeover} :
    line.changeover? = some c ↔ (∃ m, line = .changeover c m) ∨ line = .stalled c := by
  cases line <;> simp [Line.changeover?]

theorem verificationFormat_none
    (h : s.line = .noFormat ∨ ∃ kept ret g, s.line = .service kept ret g ∧ kept.getLsbD k.val = false) :
    s.verificationFormat k = none := by
  rcases h with h | ⟨kept, ret, g, h, hk⟩
  · simp only [State.verificationFormat, h]
  · have hout : inSet kept k = false := hk
    simp only [State.verificationFormat, h, hout]
    rfl

theorem verificationFormat_some (h : (s.line = .run ∧ f = s.active) ∨ (∃ c, s.line.changeover? = some c ∧ f = c.target) ∨
    ∃ kept ret g, s.line = .service kept ret g ∧ kept.getLsbD k.val = true ∧ f = s.active) :
    s.verificationFormat k = some f := by
  rcases h with ⟨h, rfl⟩ | ⟨c, h, rfl⟩ | ⟨kept, ret, g, h, hk, rfl⟩
  · simp only [State.verificationFormat, h]
  · rcases Line.changeover?_eq_some.1 h with ⟨m, h⟩ | h <;> simp only [State.verificationFormat, h]
  · have hin : inSet kept k = true := hk
    simp only [State.verificationFormat, h, hin, if_true]

theorem inSet_participants (r : FormatRecord) (k : SlotId) : inSet r.participants k = true ↔ r.lists[k] ≠ [] := by
  rw [inSet, FormatRecord.participants, slotsWhere_getLsbD]
  simp

/-- The summary of an immediate OUTSIDE answer: number and generation, all else 0 (R68). -/
theorem outsideSummary_bytes (f : FormatNo) (g : Word16) :
    (outsideSummary f g).bytes = [2, BitVec.ofNat 8 f.val] ++ bytes2 g ++ List.replicate 20 0 := by
  have hzero : num2 0 = [0, 0] := by decide
  simp only [Summary.bytes, outsideSummary, ClassCounts.bytes, ClassCounts.zero, hzero]
  simp [Verdict.code, num1, classCode, bytes2]

/-! The comparator's queue (R69, R76). -/

/-- An idle comparator takes the verification at once. -/
theorem queueVerification_idle (hc : s.comparing = none) (hq : s.queue = []) : s.queueVerification l v =
    { s with buffers := s.buffers.set l (.verifying v), comparing := some l } := by
  simp only [State.queueVerification, State.startComparison_eq, State.setBuffer_comparing, if_pos hc, hq,
    List.nil_append, List.head?_cons, List.tail_cons]
  rw [← hq]
  rfl

/-- Behind a comparison the verification waits at the tail. -/
theorem queueVerification_busy (hc : s.comparing = some m) : s.queueVerification l v =
    { s with buffers := s.buffers.set l (.verifying v), queue := s.queue ++ [l] } := by
  rw [State.queueVerification, State.startComparison_eq, if_neg (by simp [hc])]
  rfl

/-! The checks in the order of R66. -/

theorem ownManifestEnd_closed (h : ∀ d es, s.buffers[l] ≠ .assembling d es) :
    ownManifestEnd l s = (s, .reply .state []) := by
  unfold ownManifestEnd
  split
  · rename_i hb
    exact absurd hb (h _ _)
  · rfl

section
variable (hk : s.plan[l] = .controller k) (hb : s.buffers[l] = .assembling d es)
include hk hb

theorem ownManifestEnd_count (h : es.length ≠ d) :
    ownManifestEnd l s = (s.setBuffer l .idle, .reply .range (num2 es.length ++ num2 d)) := by
  simp only [ownManifestEnd, hk, Role.slot?, hb, if_pos h]

theorem ownManifestEnd_phase (h : es.length = d) (hf : s.verificationFormat k = none) :
    ownManifestEnd l s = (s.setBuffer l .idle, .reply .phase (num2 es.length ++ num2 d)) := by
  simp only [ownManifestEnd, hk, Role.slot?, hb, if_neg (not_not.2 h), hf]

theorem ownManifestEnd_outside (h : es.length = d) (hf : s.verificationFormat k = some f)
    (hlist : (s.fmt f).lists[k] = []) :
    ownManifestEnd l s = (s.setBuffer l .idle, .reply .done (outsideSummary f (s.genOf f)).bytes) := by
  simp only [ownManifestEnd, hk, Role.slot?, hb, if_neg (not_not.2 h), hf,
    if_neg (mt (inSet_participants _ k).1 (not_not.2 hlist))]

theorem ownManifestEnd_queued (h : es.length = d) (hf : s.verificationFormat k = some f)
    (hlist : (s.fmt f).lists[k] ≠ []) : ownManifestEnd l s =
      (s.queueVerification l
        { slot := k, manifest := es, format := f, generation := s.genOf f, epoch := s.epoch, lost := none }, .later) := by
  simp only [ownManifestEnd, hk, Role.slot?, hb, if_neg (not_not.2 h), hf, if_pos ((inSet_participants _ k).2 hlist)]

end

/-- Settles O47: the block's outcome by the checks of R66, then by the participants, then by the comparator. -/
theorem manifestEndHandsOver : Obligations.ManifestEndHandsOver := by
  unfold Obligations.ManifestEndHandsOver
  intro s l k hears
  obtain ⟨attends, hplan⟩ := hears
  have hpass : s.screen l .manifestEnd [] = none := State.screen_manifest (by decide) ⟨attends, hplan⟩ rfl rfl
  refine ⟨fun hclosed => congrArg _ (State.serve_answers attends hpass (ownManifestEnd_closed hclosed)),
    fun d es hb => ⟨fun hcount => ?_, fun hcount => ⟨fun hline => ?_, fun f hline => ?_⟩⟩⟩
  · exact congrArg _ (State.serve_setsBuffer attends hpass (ownManifestEnd_count hplan hb hcount))
  · exact congrArg _ (State.serve_setsBuffer attends hpass
      (ownManifestEnd_phase hplan hb hcount (verificationFormat_none hline)))
  · have hformat : (s.serving l 0x12).verificationFormat k = some f := verificationFormat_some hline
    refine ⟨fun hlist => ?_, fun hlist v hv => ?_⟩
    · rw [← outsideSummary_bytes]
      exact congrArg _ (State.serve_setsBuffer attends hpass (ownManifestEnd_outside hplan hb hcount hformat hlist))
    · subst hv
      have hqueued := State.serve_later attends hpass (ownManifestEnd_queued hplan hb hcount hformat hlist)
      exact ⟨fun hc hq => congrArg _ (hqueued.trans (queueVerification_idle hc hq)),
        fun m hc => congrArg _ (hqueued.trans (queueVerification_busy hc))⟩

end Sys2Proof.Machine
end

/-! ## All a step can do to the counters, the line and the slot trackers

Holds, permits, readiness and timers are read from these three parts alone. Most commands leave them; the others change them
by one of the moves below, and every invariant over them is proved move by move. -/

section
namespace Sys2Proof.Machine

/-- The counters, the line and the slot trackers. -/
def State.custody (s : State) : Vector Counter 4 × Line × Vector Slot 6 := (s.counters, s.line, s.slots)

theorem State.custody_eq_iff {s t : State} :
    t.custody = s.custody ↔ t.counters = s.counters ∧ t.line = s.line ∧ t.slots = s.slots := by
  simp [State.custody]

/-- One change of counters, line and trackers. -/
inductive CustodyMove : State → State → Prop
  /-- They are left alone. -/
  | same {s t : State} (h : t.custody = s.custody) : CustodyMove s t
  /-- Power-on and pin reset. -/
  | reset {s t : State} (h : t.custody = State.reset.custody) : CustodyMove s t
  /-- A millisecond of the timers. -/
  | millisecond {s : State} : CustodyMove s s.idleStep
  /-- New settings for a counter whose flag is clear, with the flag clear (R137). -/
  | settings {s : State} (i : CounterNo) (c : Counter) (hold : s.counters[i].flag = false) (hnew : c.flag = false) :
      CustodyMove s { s with counters := s.counters.set i c }
  /-- A flag is cleared and a value loaded (R138). -/
  | tripCleared {s : State} (i : CounterNo) (value : BitVec 24) :
      CustodyMove s
        ({ s with counters := s.counters.set i { s.counters[i] with flag := false, value := value } } : State).evalPermits
  /-- The line stands down (R98, R122). -/
  | standDown {s : State} : CustodyMove s s.standDown
  /-- A changeover starts (R99, R123). -/
  | startChangeover {s : State} (f : FormatNo) (cause : Cause) : CustodyMove s (s.startChangeover f cause)
  /-- A changeover is extended (R106). -/
  | extend {s : State} (c : Changeover) (used window : Nat) (h : s.line.changeover? = some c) :
      CustodyMove s { s with line := .changeover { c with extensions := used } window }
  /-- A changeover stalls (R102). -/
  | stall {s : State} (c : Changeover) (h : s.line.changeover? = some c) :
      CustodyMove s (({ s with line := .stalled c } : State).raise .stall |>.takeEvent .stall)
  /-- A changeover is abandoned (R107). -/
  | abandon {s : State} (c : Changeover) : CustodyMove s (s.abandon c)
  /-- The line enters SERVICE (R117). -/
  | enterService {s : State} (f : FormatNo) (kept : SlotSet) (ret : FormatNo) : CustodyMove s (s.enterService f kept ret)
  /-- The line is restarted (R111). -/
  | restart {s : State} : CustodyMove s s.restart
  /-- A timer has run out and the verdict degrades; the timer goes on under a releasing verdict alone (R89). -/
  | degrade {s : State} (k : SlotId) (verdict : Verdict) (timer : Option Nat) (f : Flag) (e : MonitorEvent)
      (hrun : s.slots[k].timer = some 0) (h : timer.isSome = true → verdict.releases = true) :
      CustodyMove s (s.degrade k verdict timer f e)
  /-- A result is applied (R83). -/
  | applyResult {s : State} (v : Verification) (seq : List ClassRecord) : CustodyMove s (s.applyResult v seq)

/-- Moves one after another. -/
abbrev State.MovesTo (s t : State) : Prop := Relation.ReflTransGen CustodyMove s t

variable {s t : State}

theorem State.MovesTo.of_move (h : CustodyMove s t) : s.MovesTo t := .single h

theorem State.MovesTo.of_same (h : t.custody = s.custody) : s.MovesTo t := .single (.same h)

/-- What every move keeps, moves one after another keep. -/
theorem State.MovesTo.keeps {P : State → Prop} (hP : ∀ s t, CustodyMove s t → P s → P t) (h : s.MovesTo t)
    (hs : P s) : P t := by
  induction h with
  | refl => exact hs
  | tail _ hmove ih => exact hP _ _ hmove ih

end Sys2Proof.Machine
end

/-! ## What leaves counters, line and trackers alone -/

section
namespace Sys2Proof.Machine

variable {s : State} {l : LinkId}

/-! The named updates. -/

@[simp] theorem State.setBuffer_custody (b : Buffer) : (s.setBuffer l b).custody = s.custody := rfl
@[simp] theorem State.setFmt_custody (n : FormatNo) (r : FormatRecord) : (s.setFmt n r).custody = s.custody := by
  simp [State.custody]
@[simp] theorem State.setGen_custody (n : FormatNo) (g : Word16) : (s.setGen n g).custody = s.custody := by
  simp [State.custody]
@[simp] theorem State.setArea_custody (n : FormatNo) (a : FormatArea) : (s.setArea n a).custody = s.custody := by
  simp [State.custody]
@[simp] theorem State.raise_custody (f : Flag) : (s.raise f).custody = s.custody := rfl
@[simp] theorem State.raiseIf_custody (c : Bool) (f : Flag) : (s.raiseIf c f).custody = s.custody := by
  simp [State.custody]

@[simp] theorem State.respondTo_custody (c : Option LinkId) (r : Result) (b : List Byte) :
    (s.respondTo c r b).custody = s.custody := by
  cases c <;> rfl

@[simp] theorem State.setPlanArea_custody (i : PlanAreaId) (a : PlanArea) : (s.setPlanArea i a).custody = s.custody := by
  cases i <;> rfl

@[simp] theorem State.startComparison_custody : s.startComparison.custody = s.custody := by
  rw [State.startComparison_eq]
  split <;> rfl

@[simp] theorem State.cancelManifest_custody : (s.cancelManifest l).custody = s.custody := by
  rw [State.cancelManifest_frame]
  rfl

theorem State.take_custody (kind : Byte) {act : State → State} (h : ∀ u, (act u).custody = u.custody) :
    (s.take l kind act).custody = s.custody := by
  unfold State.take
  simp only
  split
  · split
    · rfl
    · exact h _
  · rfl

/-! The program engine, the scan and the resets. -/

@[simp] theorem State.stopEngine_custody (n : Nat) : (s.stopEngine n).custody = s.custody := by
  rw [State.stopEngine_frame]
  rfl

@[simp] theorem State.sealSteps_custody (f : FormatNo) (n : Nat) : (s.sealSteps f n).custody = s.custody := by
  unfold State.sealSteps
  split
  · rfl
  · exact State.setArea_custody ..
  · exact State.setArea_custody ..
  · exact State.setArea_custody ..
  · exact State.setArea_custody f (.sealed (s.recordToSeal f))

@[simp] theorem State.retireSteps_custody (f : FormatNo) (n : Nat) : (s.retireSteps f n).custody = s.custody := by
  unfold State.retireSteps
  split
  · rfl
  · exact State.setArea_custody ..
  · exact State.setArea_custody ..

@[simp] theorem State.planSteps_custody (plan : Plan) (n : Nat) : (s.planSteps plan n).custody = s.custody := by
  unfold State.planSteps
  split <;> simp

@[simp] theorem State.scanArea_custody (fails : List FormatNo) (f : FormatNo) :
    (s.scanArea fails f).custody = s.custody := by
  rcases s.scanArea_cases fails f with ⟨-, e⟩ | ⟨r, -, -, e⟩ | ⟨-, -, e⟩
  · rw [e]
  · rw [e]
    exact (State.setGen_custody ..).trans (State.setFmt_custody ..)
  · rw [e]
    split <;> simp

theorem State.scanAreas_custody (fails : List FormatNo) (fs : List FormatNo) :
    (fs.foldl (State.scanArea fails) s).custody = s.custody := by
  induction fs generalizing s with
  | nil => rfl
  | cons f fs ih => exact ih.trans (State.scanArea_custody fails f)

@[simp] theorem State.startUpScan_custody (fails : List FormatNo) : (s.startUpScan fails).custody = s.custody :=
  (State.scanAreas_custody fails _).trans (State.raiseIf_custody ..)

@[simp] theorem State.scanErase_custody (i : PlanAreaId) (fails : Bool) : (s.scanErase i fails).custody = s.custody := by
  unfold State.scanErase
  split <;> simp

@[simp] theorem State.scanPlanArea_custody (i : PlanAreaId) (fails : Bool) :
    (s.scanPlanArea i fails).custody = s.custody := by
  unfold State.scanPlanArea
  split <;> simp

@[simp] theorem State.endScan_custody (a b : Bool) : (s.endScan a b).custody = s.custody := by
  have hareas : ((s.scanPlanArea .a a).scanPlanArea .b b).custody = s.custody := by simp
  unfold State.endScan
  simp only
  split
  · exact (State.raiseIf_custody ..).trans ((State.scanErase_custody ..).trans hareas)
  · exact hareas

/-! The enrollment unit, the assembler and the engine's claims. -/

theorem State.readRestarts_custody (f : FormatNo) : (s.readRestarts l f).custody = s.custody := by
  rw [readRestarts_eq]
  rfl

theorem State.emptyFormat_custody (f : FormatNo) : (s.emptyFormat f).custody = s.custody := by
  simp [State.custody, State.emptyFormat]

theorem State.discard_custody (c : EnrollContext) : (s.discard c).custody = s.custody :=
  State.emptyFormat_custody (s := s) c.format

theorem State.openFormat_custody (f : FormatNo) (kind : FormatKind) : (s.openFormat l f kind).custody = s.custody := by
  simp [State.custody, State.openFormat]

theorem State.addEntry_custody (c : EnrollContext) (j : SlotId) (e : RefEntry) :
    (s.addEntry c j e).custody = s.custody := by
  simp [State.custody, State.addEntry]

theorem State.dropEntry_custody (c : EnrollContext) (j : SlotId) (id : Word16) :
    (s.dropEntry c j id).custody = s.custody := by
  simp [State.custody, State.dropEntry]

theorem State.setFields_custody (c : EnrollContext) (tag : List Byte) (settle interval : Nat) :
    (s.setFields c tag settle interval).custody = s.custody := by
  simp [State.custody, State.setFields]

theorem State.beginSeal_custody (c : EnrollContext) : (s.beginSeal l c).custody = s.custody := by
  simp [State.custody, State.beginSeal]

theorem State.beginRetire_custody (f : FormatNo) : (s.beginRetire l f).custody = s.custody :=
  State.emptyFormat_custody (s := s) f

theorem State.queueVerification_custody (v : Verification) : (s.queueVerification l v).custody = s.custody := by
  simp only [State.queueVerification, State.startComparison_custody]
  rfl

theorem State.finishSeal_custody (f : FormatNo) : (s.finishSeal f).custody = s.custody := by
  simp [State.custody, State.finishSeal]

theorem State.failSeal_custody (f : FormatNo) : (s.failSeal f).custody = s.custody := by
  simp [State.custody, State.failSeal]

end Sys2Proof.Machine
end

/-! ## The move that each request makes -/

section
namespace Sys2Proof.Machine

variable {s t : State} {l : LinkId} {k : ReqKind} {p : List Byte}

/-! Each owning block. -/

theorem ownFormatOpen_custody : (ownFormatOpen l p s).1.custody = s.custody := by
  unfold ownFormatOpen
  repeat' split
  all_goals simp only [State.openFormat_custody]

theorem ownEntryAdd_custody : (ownEntryAdd l p s).1.custody = s.custody := by
  unfold ownEntryAdd
  repeat' split
  all_goals simp only [State.addEntry_custody]

theorem ownEntryDrop_custody : (ownEntryDrop l p s).1.custody = s.custody := by
  unfold ownEntryDrop
  repeat' split
  all_goals simp only [State.dropEntry_custody]

theorem ownFormatSet_custody : (ownFormatSet l p s).1.custody = s.custody := by
  unfold ownFormatSet
  repeat' split
  all_goals simp only [State.setFields_custody]

theorem ownFormatSeal_custody : (ownFormatSeal l p s).1.custody = s.custody := by
  unfold ownFormatSeal
  repeat' split
  all_goals simp only [State.beginSeal_custody]

theorem ownFormatDiscard_custody : (ownFormatDiscard l p s).1.custody = s.custody := by
  unfold ownFormatDiscard
  repeat' split
  all_goals simp only [State.discard_custody]

theorem ownFormatRetire_custody : (ownFormatRetire l p s).1.custody = s.custody := by
  unfold ownFormatRetire
  repeat' split
  all_goals simp only [State.beginRetire_custody]

theorem ownFormatRead_custody : (ownFormatRead l p s).1.custody = s.custody := by
  unfold ownFormatRead
  split
  all_goals simp only [State.readRestarts_custody]

theorem ownEntryRead_custody : (ownEntryRead l p s).1.custody = s.custody := by
  unfold ownEntryRead
  repeat' split
  all_goals simp only [State.readRestarts_custody]

theorem ownManifestBegin_custody : (ownManifestBegin l p s).1.custody = s.custody := by
  unfold ownManifestBegin
  repeat' split
  all_goals simp only [State.setBuffer_custody]

theorem ownManifestPart_custody : (ownManifestPart l p s).1.custody = s.custody := by
  unfold ownManifestPart
  repeat' split
  all_goals simp only [State.setBuffer_custody]

theorem ownManifestEnd_custody : (ownManifestEnd l s).1.custody = s.custody := by
  unfold ownManifestEnd
  repeat' split
  all_goals simp only [State.setBuffer_custody, State.queueVerification_custody]

theorem ownPlanWrite_custody : (ownPlanWrite l p s).1.custody = s.custody := by
  unfold ownPlanWrite
  repeat' split
  all_goals rfl

theorem ownSlotRead_custody : (ownSlotRead p s).1.custody = s.custody := by
  unfold ownSlotRead
  split <;> rfl

theorem ownAttentionClear_custody : (ownAttentionClear p s).1.custody = s.custody := by
  unfold ownAttentionClear
  split <;> rfl

/-- The settings of a MONITOR-SET come with the flag clear (R137). -/
theorem settingsOf_flag {c : Counter} (h : settingsOf p = some c) : c.flag = false := by
  simp only [settingsOf, Option.bind_eq_bind, Option.bind_eq_some_iff] at h
  obtain ⟨_, -, _, -, _, -, _, -, h⟩ := h
  split at h
  · cases h
    rfl
  · cases h

theorem ownMonitorSet_moves : CustodyMove s (ownMonitorSet p s).1 := by
  unfold ownMonitorSet
  split
  · exact .same rfl
  · rename_i i _
    split
    · exact .same rfl
    · rename_i hflag
      split
      · exact .same rfl
      · rename_i hset
        exact .settings i _ (Bool.eq_false_iff.2 hflag) (settingsOf_flag hset)

theorem ownTripClear_moves : CustodyMove s (ownTripClear p s).1 := by
  unfold ownTripClear
  split
  · exact .same rfl
  · split
    · exact .tripCleared ..
    · exact .same rfl

theorem ownLineChange_moves : CustodyMove s (ownLineChange p s).1 := by
  unfold ownLineChange
  split
  · exact .same rfl
  · split
    · split
      · exact .standDown
      all_goals exact .same rfl
    · split
      · exact .same rfl
      · split
        · exact .same rfl
        · exact .startChangeover ..

theorem ownLineExtend_moves : CustodyMove s (ownLineExtend s).1 := by
  unfold ownLineExtend
  split
  · rename_i c hc
    unfold State.extend
    split
    · exact .same rfl
    · exact .extend c _ _ hc
  · exact .same rfl

theorem ownLineAbandon_moves : CustodyMove s (ownLineAbandon s).1 := by
  unfold ownLineAbandon
  split
  · exact .abandon _
  · exact .same rfl

theorem ownServiceEnter_moves : CustodyMove s (ownServiceEnter p s).1 := by
  unfold ownServiceEnter
  split
  · repeat (split; exact .same rfl)
    exact .enterService ..
  · exact .same rfl

theorem ownServiceLeave_moves : CustodyMove s (ownServiceLeave s).1 := by
  unfold ownServiceLeave
  split
  · unfold State.leaveService
    split
    · exact .standDown
    · exact .startChangeover ..
  all_goals exact .same rfl

/-! Each request, and each frame. -/

/-- The block that owns a request, by its kind (R148). -/
def ownBlock (l : LinkId) (p : List Byte) : ReqKind → State → State × Answer
  | .ident => ownIdent l
  | .statusRead => ownStatusRead
  | .slotRead => ownSlotRead p
  | .manifestBegin => ownManifestBegin l p
  | .manifestPart => ownManifestPart l p
  | .manifestEnd => ownManifestEnd l
  | .lineChange => ownLineChange p
  | .lineExtend => ownLineExtend
  | .lineAbandon => ownLineAbandon
  | .serviceEnter => ownServiceEnter p
  | .serviceLeave => ownServiceLeave
  | .lineRestart => ownLineRestart
  | .attentionClear => ownAttentionClear p
  | .formatOpen => ownFormatOpen l p
  | .entryAdd => ownEntryAdd l p
  | .entryDrop => ownEntryDrop l p
  | .formatSet => ownFormatSet l p
  | .formatSeal => ownFormatSeal l p
  | .formatDiscard => ownFormatDiscard l p
  | .formatRetire => ownFormatRetire l p
  | .formatRead => ownFormatRead l p
  | .entryRead => ownEntryRead l p
  | .planWrite => ownPlanWrite l p
  | .planRead => ownPlanRead
  | .monitorSet => ownMonitorSet p
  | .monitorRead => ownMonitorRead
  | .tripClear => ownTripClear p

/-- Every request is served by its owning block. -/
theorem exec_requestCommand (l : LinkId) (k : ReqKind) (p : List Byte) (s : State) :
    exec (requestCommand l k p) s = .next (s.serve l k p (ownBlock l p k)) := by
  cases k <;> rfl

theorem ownBlock_moves (l : LinkId) (p : List Byte) (k : ReqKind) (s : State) :
    CustodyMove s (ownBlock l p k s).1 := by
  cases k with
  | ident | statusRead | planRead | monitorRead => exact .same rfl
  | slotRead => exact .same ownSlotRead_custody
  | manifestBegin => exact .same ownManifestBegin_custody
  | manifestPart => exact .same ownManifestPart_custody
  | manifestEnd => exact .same ownManifestEnd_custody
  | lineChange => exact ownLineChange_moves
  | lineExtend => exact ownLineExtend_moves
  | lineAbandon => exact ownLineAbandon_moves
  | serviceEnter => exact ownServiceEnter_moves
  | serviceLeave => exact ownServiceLeave_moves
  | lineRestart => exact .restart
  | attentionClear => exact .same ownAttentionClear_custody
  | formatOpen => exact .same ownFormatOpen_custody
  | entryAdd => exact .same ownEntryAdd_custody
  | entryDrop => exact .same ownEntryDrop_custody
  | formatSet => exact .same ownFormatSet_custody
  | formatSeal => exact .same ownFormatSeal_custody
  | formatDiscard => exact .same ownFormatDiscard_custody
  | formatRetire => exact .same ownFormatRetire_custody
  | formatRead => exact .same ownFormatRead_custody
  | entryRead => exact .same ownEntryRead_custody
  | planWrite => exact .same ownPlanWrite_custody
  | monitorSet => exact ownMonitorSet_moves
  | tripClear => exact ownTripClear_moves

theorem exec_requestCommand_moves (h : exec (requestCommand l k p) s = .next t) : s.MovesTo t := by
  rw [exec_requestCommand] at h
  cases h
  exact State.serve_keeps (P := s.MovesTo) (fun _ _ _ hu => hu.tail (.same rfl))
    (fun u hu _ _ => hu.tail (ownBlock_moves l p k u)) .refl

/-- A frame that is taken is the request of its KIND, or is refused with UNKNOWN (R148). -/
theorem takeFrame_eq (l : LinkId) (kind : Byte) (p : List Byte) (s : State) :
    takeFrame l kind p s = exec (commandOf l kind p) s := by
  unfold takeFrame commandOf
  cases kindOf kind with
  | none => rfl
  | some k => cases k <;> rfl

theorem exec_unknown_moves {kind : Byte} (h : exec (.unknown l kind p) s = .next t) : s.MovesTo t := by
  cases h
  exact .of_same (State.take_custody kind fun u => rfl)

theorem takeFrame_moves {kind : Byte} (h : takeFrame l kind p s = .next t) : s.MovesTo t := by
  rw [takeFrame_eq] at h
  unfold commandOf at h
  split at h
  · exact exec_requestCommand_moves h
  · exact exec_unknown_moves h

end Sys2Proof.Machine
end

/-! ## The moves that each event makes, and all that a step can do -/

section
namespace Sys2Proof.Machine

variable {s t : State} {l : LinkId}

theorem exec_characterReceived_moves {ch : Byte} {stop : Bool} (h : exec (.characterReceived l ch stop) s = .next t) :
    s.MovesTo t := by
  change execCharacterReceived l ch stop s = .next t at h
  unfold execCharacterReceived deliver checkFrame at h
  split at h
  · cases h
    exact .refl
  · split at h
    · split at h
      · cases h
        split
        · exact .of_same rfl
        · exact .refl
      · cases h
        exact .of_same rfl
      · split at h
        · cases h
          exact .of_same rfl
        · simp only at h
          split at h
          · exact takeFrame_moves h
          · cases h
            exact .of_same rfl
    · cases h
      exact .of_same rfl

theorem State.endComparison_custody (v : Verification) (seq : List ClassRecord) :
    (s.endComparison l v seq).custody = (s.offer v seq).1.custody := by
  cases ho : s.offer v seq with
  | mk u r =>
    simp only [State.endComparison, ho, State.startComparison_custody]
    rfl

/-- A result that is offered is applied, or superseded (R82). -/
theorem State.offer_moves (v : Verification) (seq : List ClassRecord) : s.MovesTo (s.offer v seq).1 := by
  unfold State.offer
  split
  · exact .of_move (.applyResult v seq)
  · exact .refl

theorem exec_comparisonEnd_moves (h : exec .comparisonEnd s = .next t) : s.MovesTo t := by
  change execComparisonEnd s = .next t at h
  unfold execComparisonEnd at h
  split at h
  · cases h
    exact .refl
  · rename_i l _
    split at h
    · rename_i v _
      cases h
      exact (State.offer_moves v _).tail (.same (State.endComparison_custody v _))
    all_goals
      cases h
      exact .of_same State.startComparison_custody

theorem exec_presentationTimerExpiry_moves {k : SlotId} (h : exec (.presentationTimerExpiry k) s = .next t) :
    s.MovesTo t := by
  change execPresentationTimerExpiry k s = .next t at h
  unfold execPresentationTimerExpiry at h
  split at h
  · cases h
    exact .of_move (.degrade k _ _ _ _ ‹_› fun _ => rfl)
  · cases h
    exact .of_move (.degrade k _ _ _ _ ‹_› fun _ => rfl)
  · cases h
    exact .of_move (.degrade k _ _ _ _ ‹_› nofun)
  · cases h
    exact .refl

theorem exec_settleTimerExpiry_moves (h : exec .settleTimerExpiry s = .next t) : s.MovesTo t := by
  change execSettleTimerExpiry s = .next t at h
  unfold execSettleTimerExpiry at h
  split at h
  · rename_i c hline
    cases h
    exact .of_move (.stall c (by rw [hline]; rfl))
  all_goals
    cases h
    exact .refl

theorem exec_idleTimerExpiry_moves (h : exec .idleTimerExpiry s = .next t) : s.MovesTo t := by
  change execIdleTimerExpiry s = .next t at h
  unfold execIdleTimerExpiry at h
  split at h
  · cases h
    exact .of_same (State.discard_custody _)
  · cases h
    exact .refl

theorem exec_sealCompletion_moves {o : SealOutcome} (h : exec (.sealCompletion o) s = .next t) : s.MovesTo t := by
  change execSealCompletion o s = .next t at h
  unfold execSealCompletion at h
  split at h
  · split at h
    · cases h
      exact .of_same (by simp [State.finishSeal_custody])
    · cases h
      exact .of_same (by simp [State.failSeal_custody])
  · cases h
    exact .refl

theorem exec_retireEraseCompletion_moves {o : RetireOutcome} (h : exec (.retireEraseCompletion o) s = .next t) :
    s.MovesTo t := by
  have idle (u : State) : ({ u with engine := none } : State).custody = u.custody := rfl
  change execRetireEraseCompletion o s = .next t at h
  unfold execRetireEraseCompletion at h
  split at h
  · split at h
    all_goals
      cases h
      exact .of_same (by simp [idle])
  · cases h
    exact .refl

theorem exec_planWriteCompletion_moves {o : PlanOutcome} (h : exec (.planWriteCompletion o) s = .next t) :
    s.MovesTo t := by
  have ended (u : State) : u.endPlanWrite.custody = u.custody := rfl
  have taken (u : State) (plan : Plan) : (u.takePlan plan).custody = u.custody := rfl
  have current (u : State) (i : Option PlanAreaId) : ({ u with planCurrent := i } : State).custody = u.custody := rfl
  change execPlanWriteCompletion o s = .next t at h
  unfold execPlanWriteCompletion at h
  split at h
  · split at h
    · cases h
      exact .of_same (by simp [ended, taken, current])
    · cases h
      exact .of_same (by simp [ended])
  · cases h
    exact .refl

theorem exec_powerOn_moves {n : Nat} {fails : List FormatNo} (h : exec (.powerOn n fails) s = .next t) : s.MovesTo t := by
  change execPowerOn n fails s = .next t at h
  unfold execPowerOn at h
  simp only at h
  split at h
  · obtain rfl := Host.Outcome.next.inj h
    exact .of_move (.reset rfl)
  all_goals
    obtain rfl := Host.Outcome.next.inj h
    exact .of_move (.reset (State.startUpScan_custody fails))

theorem exec_pinResetRelease_moves {fails : List FormatNo} (h : exec (.pinResetRelease fails) s = .next t) :
    s.MovesTo t := by
  change execPinResetRelease fails s = .next t at h
  unfold execPinResetRelease at h
  split at h
  · obtain rfl := Host.Outcome.next.inj h
    exact .of_same (State.startUpScan_custody fails)
  all_goals
    cases h
    exact .refl

theorem exec_scanEnd_moves {a b : Bool} (h : exec (.scanEnd a b) s = .next t) : s.MovesTo t := by
  change execScanEnd a b s = .next t at h
  unfold execScanEnd at h
  split at h
  · cases h
    exact .of_same (State.endScan_custody a b)
  all_goals
    cases h
    exact .refl

theorem exec_linkBreak_moves (h : exec (.linkBreak l) s = .next t) : s.MovesTo t := by
  change execLinkBreak l s = .next t at h
  unfold execLinkBreak at h
  split at h
  · cases h
    exact .refl
  · cases h
    exact .of_same State.cancelManifest_custody

theorem exec_frameGapTimeout_moves (h : exec (.frameGapTimeout l) s = .next t) : s.MovesTo t := by
  cases h
  split
  · exact .of_same rfl
  · exact .refl

/-- All a command can do to counters, line and trackers. -/
theorem exec_moves {i : Instr} (h : exec i s = .next t) : s.MovesTo t := by
  cases hreq : i.request? with
  | some request =>
    obtain ⟨l, k, p⟩ := request
    rw [request_eq_requestCommand hreq] at h
    exact exec_requestCommand_moves h
  | none =>
    cases i with
    | powerOn n fails => exact exec_powerOn_moves h
    | pinReset n =>
      cases h
      exact .of_move (.reset rfl)
    | pinResetRelease fails => exact exec_pinResetRelease_moves h
    | scanEnd a b => exact exec_scanEnd_moves h
    | linkBreak l => exact exec_linkBreak_moves h
    | frameGapTimeout l => exact exec_frameGapTimeout_moves h
    | unknown l kind p => exact exec_unknown_moves h
    | comparisonEnd => exact exec_comparisonEnd_moves h
    | presentationTimerExpiry k => exact exec_presentationTimerExpiry_moves h
    | settleTimerExpiry => exact exec_settleTimerExpiry_moves h
    | idleTimerExpiry => exact exec_idleTimerExpiry_moves h
    | sealCompletion o => exact exec_sealCompletion_moves h
    | retireEraseCompletion o => exact exec_retireEraseCompletion_moves h
    | planWriteCompletion o => exact exec_planWriteCompletion_moves h
    | characterReceived l ch stop => exact exec_characterReceived_moves h
    | crcMismatch | transmitComplete | residencyTick | linkLineReturnsHigh | rateStrapChange =>
      cases h
      exact .of_same rfl
    | _ => cases hreq

/-- All a step can do to counters, line and trackers. -/
theorem step_moves (h : step s = .next t) : s.MovesTo t := by
  unfold step at h
  split at h
  · cases h
    exact .of_move .millisecond
  · rename_i rest _
    have hpop : s.MovesTo { s with pending := rest } := .of_same rfl
    exact hpop.trans (exec_moves h)

end Sys2Proof.Machine
end

/-! ## Permits follow custody (R90, R126, R135) -/

section
namespace Sys2Proof.Machine

variable {s t : State} {i : CounterNo} {k : SlotId} {c : Counter} {e : MonitorEvent}

/-- The level of a permit in the terms of R90. -/
theorem permitLevel_iff (line : Line) (v : Verdict) (hold : Bool) : permitLevel line v hold = true ↔
    (line = .run ∨ ∃ kept ret g, line = .service kept ret g) ∧ (v = .cleared ∨ v = .trimmed ∨ v = .stale) ∧
      hold = false := by
  simp only [permitLevel, Bool.and_eq_true, Line.permits_iff, Verdict.releases_iff, Bool.not_eq_true', and_assoc]

/-- Holds and permits by the functions that derive them (R90, R135). -/
theorem State.permitsFollow_iff : s.PermitsFollow ↔ ∀ k : SlotId, s.slots[k].hold = s.held k ∧
    s.slots[k].permit = permitLevel s.line s.slots[k].verdict s.slots[k].hold := by
  refine forall_congr' fun k => and_congr ?_ ?_
  · exact (iff_congr Iff.rfl (s.held_iff k).symm).trans Bool.eq_iff_iff.symm
  · exact (iff_congr Iff.rfl (permitLevel_iff ..).symm).trans Bool.eq_iff_iff.symm

/-- Permits follow after any change that leaves holds, verdicts and the permission of the line. -/
theorem State.PermitsFollow.of_levels (h : s.PermitsFollow) (hheld : ∀ k, t.held k = s.held k)
    (hline : t.line.permits = s.line.permits)
    (hslots : ∀ k : SlotId, t.slots[k].verdict = s.slots[k].verdict ∧ t.slots[k].hold = s.slots[k].hold ∧
      t.slots[k].permit = s.slots[k].permit) : t.PermitsFollow := by
  rw [State.permitsFollow_iff] at h ⊢
  intro k
  obtain ⟨hverdict, hhold, hpermit⟩ := hslots k
  rw [hverdict, hhold, hpermit, hheld, permitLevel, hline]
  exact h k

theorem Line.age_permits (line : Line) : line.age.permits = line.permits := by cases line <;> rfl

theorem Line.permits_of_changeover {line : Line} {c : Changeover} (h : line.changeover? = some c) :
    line.permits = false := by
  cases line with
  | changeover | stalled => rfl
  | _ => cases h

/-- A counter read after a write of one counter. -/
theorem counters_set (counters : Vector Counter 4) (i j : CounterNo) (c : Counter) :
    (counters.set i c)[j] = if j = i then c else counters[j] := by
  simp only [Fin.getElem_fin, Vector.getElem_set, Fin.ext_iff, eq_comm (a := i.val)]

/-- A counter whose flag is clear holds no slot, whatever its settings (R135). -/
theorem State.held_set_of_clear (hold : s.counters[i].flag = false) (hnew : c.flag = false) (k : SlotId) :
    ({ s with counters := s.counters.set i c } : State).held k = s.held k := by
  rw [Bool.eq_iff_iff, State.held_iff, State.held_iff]
  refine exists_congr fun j => ?_
  rw [counters_set]
  by_cases hj : j = i
  · subst hj
    rw [if_pos rfl, hold, hnew]
    simp only [Bool.false_eq_true, false_and, and_false]
  · rw [if_neg hj]

theorem reset_permitsFollow : State.reset.PermitsFollow := by
  rw [State.permitsFollow_iff]
  decide

theorem State.PermitsFollow.of_custody (h : s.PermitsFollow) (hc : t.custody = s.custody) : t.PermitsFollow := by
  obtain ⟨hcounters, hline, hslots⟩ := State.custody_eq_iff.1 hc
  exact h.congr hcounters hline hslots

theorem takeEvent_permitsFollow (s : State) (e : MonitorEvent) : (s.takeEvent e).PermitsFollow :=
  State.evalPermits_permitsFollow _

theorem setVerdicts_permitsFollow (s : State) (f : SlotId → Verdict) : (s.setVerdicts f).PermitsFollow :=
  State.evalPermits_permitsFollow _

/-- A restart is a stand-down that empties memories and summaries besides. -/
theorem restart_slot (s : State) (k : SlotId) :
    s.restart.slots[k] = { s.standDown.slots[k] with memory := none, summary := none } := by
  simp [State.restart]

theorem restart_permitsFollow (s : State) : s.restart.PermitsFollow := by
  have hdown : s.standDown.PermitsFollow := setVerdicts_permitsFollow _ _
  refine hdown.of_levels (fun _ => State.held_congr rfl _) rfl fun k => ?_
  rw [restart_slot]
  exact ⟨rfl, rfl, rfl⟩

theorem age_permitsFollow (h : s.PermitsFollow) : s.age.PermitsFollow :=
  h.of_levels (fun _ => State.held_congr rfl _) (Line.age_permits s.line) fun k => by
    rw [age_slot]
    exact ⟨rfl, rfl, rfl⟩

/-- Every move leaves holds and permits as they follow: the moves that change what they follow from evaluate them anew. -/
theorem CustodyMove.keeps_permitsFollow (hmove : CustodyMove s t) (h : s.PermitsFollow) : t.PermitsFollow := by
  cases hmove with
  | same hc => exact h.of_custody hc
  | reset hc => exact reset_permitsFollow.of_custody hc
  | millisecond => exact (age_permitsFollow h).of_custody rfl
  | settings i c hold hnew => exact h.of_levels (State.held_set_of_clear hold hnew) rfl fun _ => ⟨rfl, rfl, rfl⟩
  | tripCleared => exact State.evalPermits_permitsFollow _
  | standDown => exact setVerdicts_permitsFollow _ _
  | startChangeover => exact setVerdicts_permitsFollow _ _
  | extend c used window hline =>
    exact h.of_levels (fun _ => State.held_congr rfl _) (Line.permits_of_changeover hline).symm fun _ => ⟨rfl, rfl, rfl⟩
  | stall => exact takeEvent_permitsFollow _ _
  | abandon => exact takeEvent_permitsFollow _ _
  | enterService => exact setVerdicts_permitsFollow _ _
  | restart => exact restart_permitsFollow s
  | degrade => exact State.evalPermits_permitsFollow _
  | applyResult => exact State.evalPermits_permitsFollow _

/-! A counter whose flag is set is enabled (R126). -/

theorem State.TripsEnabled.congr (h : s.TripsEnabled) (hc : t.counters = s.counters) : t.TripsEnabled := by
  unfold State.TripsEnabled
  rwa [hc]

theorem reset_tripsEnabled : State.reset.TripsEnabled := by
  unfold State.TripsEnabled
  decide

/-- Only an enabled counter counts, so only an enabled one wraps (R128, R132). -/
theorem Counter.take_enabled {frozen : Bool} (h : c.flag = true → c.enable = true) :
    (c.take frozen e).flag = true → (c.take frozen e).enable = true := by
  unfold Counter.take
  split
  · rename_i hcounts
    simp only [Counter.counts, Bool.and_eq_true, and_assoc] at hcounts
    exact fun _ => hcounts.1
  · exact h

theorem takeEvent_tripsEnabled (h : s.TripsEnabled) (e : MonitorEvent) : (s.takeEvent e).TripsEnabled := by
  intro i
  rw [Fin.getElem_fin, State.takeEvent_counter]
  exact Counter.take_enabled (h i)

theorem takeEvents_tripsEnabled (h : s.TripsEnabled) (es : List MonitorEvent) : (s.takeEvents es).TripsEnabled := by
  induction es generalizing s with
  | nil => exact h
  | cons e es ih => exact ih (takeEvent_tripsEnabled h e)

theorem setCounter_tripsEnabled (h : s.TripsEnabled) (hc : c.flag = false) :
    ({ s with counters := s.counters.set i c } : State).TripsEnabled := by
  intro j
  rw [counters_set]
  split
  · simp [hc]
  · exact h j

theorem State.timerOrReport_counters (s : State) (k : SlotId) (verdict : Verdict) :
    (s.timerOrReport k verdict).counters = s.counters := by
  unfold State.timerOrReport
  split <;> simp

theorem State.afterAbandon_counters (s : State) (c : Changeover) : (s.afterAbandon c).counters = s.counters := by
  unfold State.afterAbandon
  split <;> rfl

/-- Every move keeps set flags on enabled counters: flags are set by events alone, and settings are written with the flag
clear. -/
theorem CustodyMove.keeps_tripsEnabled (hmove : CustodyMove s t) (h : s.TripsEnabled) : t.TripsEnabled := by
  cases hmove with
  | same hc => exact h.congr (State.custody_eq_iff.1 hc).1
  | reset hc =>
    exact reset_tripsEnabled.congr (State.custody_eq_iff.1 hc).1
  | settings i c hold hnew => exact setCounter_tripsEnabled h hnew
  | tripCleared i value => exact setCounter_tripsEnabled h rfl
  | stall c => exact takeEvent_tripsEnabled (s := State.raise .stall { s with line := .stalled c }) (h.congr rfl) _
  | abandon c =>
    exact takeEvent_tripsEnabled (s := (s.afterAbandon c).raise .abandon) (h.congr (State.afterAbandon_counters s c)) _
  | degrade k verdict timer f e =>
    have hset : (s.setSlot k { s.slots[k] with verdict := verdict, timer := timer }).TripsEnabled := h.congr rfl
    exact (takeEvent_tripsEnabled (hset.congr (State.raise_counters _ f)) e).congr (State.evalPermits_counters _)
  | applyResult v seq =>
    refine (takeEvents_tripsEnabled h (s.appliedEvents v seq)).congr ?_
    exact applyResult_counters.trans (State.timerOrReport_counters ..)
  | millisecond | standDown | startChangeover | extend | enterService | restart => exact h.congr rfl

/-- Settles O57: a step is made of moves, and every move keeps either part. -/
theorem permitsFollowCustody : Obligations.PermitsFollowCustody := by
  unfold Obligations.PermitsFollowCustody
  exact ⟨fun s t h hstep => (step_moves hstep).keeps (fun _ _ => CustodyMove.keeps_permitsFollow) h,
    fun s t h hstep => (step_moves hstep).keeps (fun _ _ => CustodyMove.keeps_tripsEnabled) h⟩

end Sys2Proof.Machine
end

/-! ## Readiness and presentation timers (R88, R103, R105) -/

section
namespace Sys2Proof.Machine

variable {s t : State} {k j : SlotId} {c : Changeover} {v : Verification} {seq : List ClassRecord}

/-- Readiness is sound and timers are. -/
def State.ReadyAndTimersSound (s : State) : Prop := s.ReadySound ∧ s.TimersSound

/-- In a phase that permits nothing no timer runs (R88). -/
theorem State.TimersSound.stopped (h : s.TimersSound) (hline : s.line.permits = false) (k : SlotId) :
    s.slots[k].timer = none := by
  by_contra hne
  have hrun := (Line.permits_iff _).2 (h k (Option.isSome_iff_ne_none.2 hne)).1
  rw [hline] at hrun
  cases hrun

theorem readySound_of_no_changeover (h : s.line.changeover? = none) : s.ReadySound := fun c hc => by
  rw [h] at hc
  cases hc

theorem timersSound_of_stopped (h : ∀ k : SlotId, s.slots[k].timer = none) : s.TimersSound := fun k hk => by
  rw [h k] at hk
  cases hk

/-- Both are kept where the context and the permission of the line, the verdicts and the running of the timers stay. -/
theorem State.ReadyAndTimersSound.of_levels (h : s.ReadyAndTimersSound) (hctx : t.line.changeover? = s.line.changeover?)
    (hline : t.line.permits = s.line.permits)
    (hslots : ∀ k : SlotId, t.slots[k].verdict = s.slots[k].verdict ∧
      t.slots[k].timer.isSome = s.slots[k].timer.isSome) : t.ReadyAndTimersSound := by
  obtain ⟨hready, htimers⟩ := h
  refine ⟨fun c hc k hk => ?_, fun k hk => ?_⟩
  · rw [(hslots k).1]
    exact hready c (hctx ▸ hc) k hk
  · rw [← Line.permits_iff, (hslots k).1, hline, Line.permits_iff]
    exact htimers k ((hslots k).2 ▸ hk)

theorem State.ReadyAndTimersSound.of_sameCustody (h : s.ReadyAndTimersSound) (hline : t.line = s.line)
    (hslots : s.SameCustody t) : t.ReadyAndTimersSound := by
  refine h.of_levels (by rw [hline]) (by rw [hline]) fun k => ?_
  obtain ⟨hverdict, htimer, -, -⟩ := hslots k
  exact ⟨hverdict, by rw [htimer]⟩

theorem State.ReadyAndTimersSound.of_custody (h : s.ReadyAndTimersSound) (hc : t.custody = s.custody) :
    t.ReadyAndTimersSound := by
  obtain ⟨-, hline, hslots⟩ := State.custody_eq_iff.1 hc
  exact h.of_sameCustody hline fun k => by simp only [hslots, and_self]

theorem takeEvent_sameCustody (s : State) (e : MonitorEvent) : s.SameCustody (s.takeEvent e) :=
  s.takeEvents_sameCustody [e]

theorem evalPermits_sameCustody (s : State) : s.SameCustody s.evalPermits := fun k => by
  simp only [Fin.getElem_fin, State.evalPermits_slot, and_self]

/-- The line sets every verdict with the timers stopped; a context that it starts has no ready slot (R87, R100). -/
theorem setVerdicts_sound (f : SlotId → Verdict) (h : ∀ c, s.line.changeover? = some c → c.ready = 0) :
    (s.setVerdicts f).ReadyAndTimersSound := by
  refine ⟨fun c hc k hk => ?_, timersSound_of_stopped fun k => ?_⟩
  · rw [h c hc, inSet] at hk
    exact absurd hk (by simp)
  · rw [Fin.getElem_fin, State.setVerdicts_slot]

theorem standDown_sound (s : State) : s.standDown.ReadyAndTimersSound := setVerdicts_sound _ nofun

theorem afterAbandon_sound (s : State) (c : Changeover) : (s.afterAbandon c).ReadyAndTimersSound := by
  unfold State.afterAbandon
  split
  · exact setVerdicts_sound _ nofun
  · exact standDown_sound s

/-- A stall or an extension of a changeover with sound timers and readiness. -/
theorem State.ReadyAndTimersSound.of_line {c' : Changeover} (h : s.ReadyAndTimersSound)
    (hc : s.line.changeover? = some c) {line : Line} (hnew : line.changeover? = some c')
    (hparts : c'.participants = c.participants) (hready : c'.ready = c.ready) :
    ({ s with line := line } : State).ReadyAndTimersSound := by
  refine ⟨fun c'' h'' k hk => ?_, timersSound_of_stopped (h.2.stopped (Line.permits_of_changeover hc))⟩
  obtain rfl : c' = c'' := Option.some.inj (hnew.symm.trans h'')
  rw [hparts]
  exact h.1 c hc k (hready ▸ hk)

/-! A timer that has run out (R89). -/

theorem degrade_sound (h : s.ReadyAndTimersSound) (hrun : s.slots[k].timer = some 0) {verdict : Verdict}
    {timer : Option Nat} (hreleases : timer.isSome = true → verdict.releases = true) (f : Flag) (e : MonitorEvent) :
    (s.degrade k verdict timer f e).ReadyAndTimersSound := by
  obtain ⟨hready, htimers⟩ := h
  have hline := (htimers k (by rw [hrun]; rfl)).1
  have hset : (s.setSlot k { s.slots[k] with verdict := verdict, timer := timer }).ReadyAndTimersSound := by
    refine ⟨readySound_of_no_changeover ?_, fun j hj => ⟨hline, ?_⟩⟩
    · rcases hline with h | ⟨kept, ret, g, h⟩ <;> rw [State.setSlot_line, h] <;> rfl
    · by_cases hjk : j = k
      · subst hjk
        rw [Fin.getElem_fin, State.setSlot_slot] at hj ⊢
        exact (Verdict.releases_iff _).1 (hreleases hj)
      · rw [Fin.getElem_fin, State.setSlot_slot_of_ne _ _ hjk] at hj ⊢
        exact (htimers j hj).2
  have hevent := (hset.of_custody (State.raise_custody f)).of_sameCustody (State.takeEvent_line _ e)
    (takeEvent_sameCustody _ e)
  exact hevent.of_sameCustody rfl (evalPermits_sameCustody _)

/-! The application of a result (R83 to R88). -/

/-- A releasing verdict of a walk is CLEARED or TRIMMED (R57). -/
theorem summaryOf_released (h : (summaryOf v seq).verdict.releases = true) :
    (summaryOf v seq).verdict = .cleared ∨ (summaryOf v seq).verdict = .trimmed := by
  have hverdict : (summaryOf v seq).verdict = (countsOf seq).verdict := rfl
  rw [hverdict, verdict_countsOf] at h ⊢
  split
  · rename_i hrefuses
    rw [if_pos hrefuses] at h
    cases h
  · split
    · exact .inr rfl
    · exact .inl rfl

@[simp] theorem Changeover.report_participants (c : Changeover) (k : SlotId) (b : Bool) :
    (c.report k b).participants = c.participants := by
  unfold Changeover.report
  split <;> rfl

/-- The report of a participant is its own bit of the ready set (R103). -/
theorem Changeover.report_ready {b : Bool} (hin : inSet c.participants k = true) (j : SlotId) :
    inSet (c.report k b).ready j = if j = k then b else inSet c.ready j := by
  rw [Changeover.report, if_pos hin]
  simp only [inSet, Fin.ext_iff]
  by_cases hjk : j.val = k.val
  · cases b <;> simp [hjk]
  · cases b <;> simp [hjk]

/-- Who is ready after a report: the reporter, if it is a participant and reports so, and the others as before (R103). -/
theorem Changeover.mem_report {b : Bool} (hsub : inSet c.ready k = true → inSet c.participants k = true)
    (h : inSet (c.report k b).ready j = true) :
    (j = k ∧ b = true ∧ inSet c.participants k = true) ∨ (j ≠ k ∧ inSet c.ready j = true) := by
  by_cases hin : inSet c.participants k = true
  · rw [Changeover.report_ready hin] at h
    split at h
    · exact .inl ⟨‹_›, h, hin⟩
    · exact .inr ⟨‹_›, h⟩
  · rw [Changeover.report, if_neg hin] at h
    refine .inr ⟨?_, h⟩
    rintro rfl
    exact hin (hsub h)

/-- After the result is in its tracker, whoever its report makes ready is a released participant. -/
theorem recorded_report_released (h : s.ReadySound) (hc : s.line.changeover? = some c) (k : SlotId)
    (hk : inSet (c.report v.slot (summaryOf v seq).verdict.releases).ready k = true) :
    inSet c.participants k = true ∧
      ((s.recorded v seq).slots[k].verdict = .cleared ∨ (s.recorded v seq).slots[k].verdict = .trimmed) := by
  rcases Changeover.mem_report (fun hready => (h c hc _ hready).1) hk with ⟨rfl, hreleases, hin⟩ | ⟨hne, hready⟩
  · rw [State.recorded_slot.1]
    exact ⟨hin, summaryOf_released hreleases⟩
  · rw [(State.recorded_slot_of_ne hne).1]
    exact h c hc k hready

theorem Line.withContext_changeover? {line : Line} {c' : Changeover} (h : line.changeover? = some c) :
    (line.withContext c').changeover? = some c' := by
  cases line with
  | changeover | stalled => rfl
  | _ => cases h

/-- A commit on a complete ready set of released participants starts timers under releasing verdicts alone (R105). -/
theorem commit_sound
    (h : ∀ k : SlotId, inSet c.ready k = true → s.slots[k].verdict = .cleared ∨ s.slots[k].verdict = .trimmed)
    (hready : c.ready = c.participants) : (s.commit c).ReadyAndTimersSound := by
  refine ⟨readySound_of_no_changeover rfl, fun k hk => ⟨.inl rfl, ?_⟩⟩
  obtain ⟨-, -, participant, outside⟩ := s.commit_slot c k
  cases hin : inSet c.participants k with
  | true =>
    rw [(participant hin).1]
    exact (h k (hready ▸ hin)).imp_right .inl
  | false =>
    rw [(outside hin).2] at hk
    cases hk

/-- Step 5 of R83 sets the timer of the slot to its verdict, or reports it. -/
theorem reported_sound (h : s.ReadyAndTimersSound) (v : Verification) (seq : List ClassRecord) :
    (s.reported v seq).ReadyAndTimersSound := by
  obtain ⟨hready, htimers⟩ := h
  have hstopped (hline : s.line.permits = false) (k : SlotId) : (s.recorded v seq).slots[k].timer = none :=
    (State.recorded_timer k).trans (htimers.stopped hline k)
  rcases s.line.cases with hline | hline | ⟨c, hc⟩
  · have hsame : s.reported v seq = s.recorded v seq := by
      simp only [State.reported, State.timerOrReport, State.recorded_line, hline]
    rw [hsame]
    exact ⟨readySound_of_no_changeover (by rw [State.recorded_line, hline]; rfl),
      timersSound_of_stopped (hstopped (by rw [hline]; rfl))⟩
  · have hnone : s.line.changeover? = none := by rcases hline with h | ⟨kept, ret, g, h⟩ <;> rw [h] <;> rfl
    rw [reported_of_permits hline]
    refine ⟨readySound_of_no_changeover (by rwa [State.setSlot_line, State.recorded_line]), fun k hk => ?_⟩
    rw [State.setSlot_line, State.recorded_line]
    refine ⟨hline, ?_⟩
    rw [State.setSlot_timer] at hk ⊢
    by_cases hkv : k = v.slot
    · subst hkv
      rw [if_pos rfl, State.timerAfter] at hk
      rw [State.recorded_slot.1]
      split at hk
      · exact (Verdict.releases_iff _).1 ‹_›
      · cases hk
    · rw [if_neg hkv, State.recorded_timer] at hk
      rw [(State.recorded_slot_of_ne hkv).1]
      exact (htimers k hk).2
  · have hc' : (s.recorded v seq).line.changeover? = some c := by rwa [State.recorded_line]
    have hreleased := recorded_report_released (v := v) (seq := seq) hready hc
    rw [State.reported, State.timerOrReport_report hc']
    split
    · exact commit_sound (fun k hk => (hreleased k hk).2) (by rwa [Changeover.report_participants])
    · refine ⟨fun c'' h'' k hk => ?_, timersSound_of_stopped (hstopped (Line.permits_of_changeover hc))⟩
      obtain rfl := Option.some.inj ((Line.withContext_changeover? hc').symm.trans h'')
      rw [Changeover.report_participants]
      exact hreleased k hk

theorem applyResult_sound (h : s.ReadyAndTimersSound) (v : Verification) (seq : List ClassRecord) :
    (s.applyResult v seq).ReadyAndTimersSound :=
  (reported_sound h v seq).of_sameCustody applyResult_line (applyResult_sameCustody s v seq)

theorem Line.age_changeover? (line : Line) : line.age.changeover? = line.changeover? := by cases line <;> rfl

/-- Every move keeps readiness and timers sound together: a timer that runs out runs in RUN or SERVICE, and a commit
finds its participants released. -/
theorem CustodyMove.keeps_readyAndTimersSound (hmove : CustodyMove s t) (h : s.ReadyAndTimersSound) :
    t.ReadyAndTimersSound := by
  cases hmove with
  | same hc => exact h.of_custody hc
  | reset hc =>
    have hreset : State.reset.ReadyAndTimersSound :=
      ⟨readySound_of_no_changeover rfl, timersSound_of_stopped (by decide)⟩
    exact hreset.of_custody hc
  | millisecond =>
    refine h.of_levels (Line.age_changeover? s.line) (Line.age_permits s.line) fun k => ?_
    have hslot : s.idleStep.slots[k] = { s.slots[k] with timer := s.slots[k].timer.map (· - 1) } := age_slot s k
    rw [hslot]
    exact ⟨rfl, Option.isSome_map⟩
  | settings => exact h.of_levels rfl rfl fun _ => ⟨rfl, rfl⟩
  | tripCleared => exact h.of_sameCustody rfl (evalPermits_sameCustody _)
  | standDown => exact standDown_sound s
  | startChangeover => exact setVerdicts_sound _ fun c hc => by cases hc; rfl
  | extend c used window hc => exact h.of_line hc rfl rfl rfl
  | stall c hc =>
    have hline : ({ s with line := .stalled c } : State).ReadyAndTimersSound := h.of_line hc rfl rfl rfl
    exact (hline.of_custody (State.raise_custody .stall)).of_sameCustody (State.takeEvent_line ..)
      (takeEvent_sameCustody _ _)
  | abandon c =>
    exact ((afterAbandon_sound s c).of_custody (State.raise_custody .abandon)).of_sameCustody (State.takeEvent_line ..)
      (takeEvent_sameCustody _ _)
  | enterService => exact setVerdicts_sound _ nofun
  | restart =>
    refine (standDown_sound s).of_levels rfl rfl fun k => ?_
    rw [restart_slot]
    exact ⟨rfl, rfl⟩
  | degrade k verdict timer f e hrun hreleases => exact degrade_sound h hrun hreleases f e
  | applyResult v seq => exact applyResult_sound h v seq

/-- Settles O58: a step is made of moves, and every move keeps readiness and timers sound together. -/
theorem readinessAndTimersStaySound : Obligations.ReadinessAndTimersStaySound := by
  unfold Obligations.ReadinessAndTimersStaySound
  exact fun s t hready htimers hstep =>
    (step_moves hstep).keeps (P := State.ReadyAndTimersSound) (fun _ _ => CustodyMove.keeps_readyAndTimersSound)
      ⟨hready, htimers⟩

end Sys2Proof.Machine
end

/-! ## One event of the monitor, and the presentation timer's expiry (R89, R128, R132 to R135) -/

section
namespace Sys2Proof.Machine

variable {s : State} {k : SlotId}

@[simp] theorem State.evalPermits_evalPermits (s : State) : s.evalPermits.evalPermits = s.evalPermits := by
  have hslots : s.evalPermits.evalPermits.slots = s.evalPermits.slots := by
    refine Vector.ext fun j hj => ?_
    rw [State.evalPermits_slot, State.evalPermits_slot, State.held_congr (State.evalPermits_counters s)]
    rfl
  exact congrArg (fun slots => ({ s with slots := slots } : State)) hslots

@[simp] theorem State.takeEvent_evalPermits (s : State) (e : MonitorEvent) :
    (s.takeEvent e).evalPermits = s.takeEvent e :=
  State.evalPermits_evalPermits _

/-- All that an event can change. -/
theorem takeEvent_frame (s : State) (e : MonitorEvent) : s.takeEvent e =
    { s with
      counters := (s.takeEvent e).counters
      attention := (s.takeEvent e).attention
      slots := (s.takeEvent e).slots } := by
  unfold State.takeEvent State.raiseIf
  split <;> rfl

/-- What one event leaves (R128, R132 to R135). -/
theorem takeEvent_counted (s : State) (e : MonitorEvent) : s.Counted e (s.takeEvent e) := by
  refine ⟨fun i => ⟨fun h => ?_, fun h => ?_⟩, fun h => ?_, fun h => ?_, fun k => ?_, takeEvent_sameCustody s e,
    takeEvent_frame s e⟩
  · rw [Fin.getElem_fin, State.takeEvent_counter]
    exact if_pos ((counts_iff s e i).2 h)
  · rw [Fin.getElem_fin, State.takeEvent_counter]
    exact if_neg (mt (counts_iff s e i).1 h)
  · rw [State.takeEvent_attention, if_pos ((overflows_iff s e).2 h)]
    rfl
  · rw [State.takeEvent_attention, if_neg (mt (overflows_iff s e).1 h)]
  · exact (takeEvent_permitsFollow s e k).1

/-- A degraded verdict stands in its tracker with the timer and the flag, and its event is counted (R89). -/
theorem degrade_counted (s : State) (k : SlotId) (verdict : Verdict) (timer : Option Nat) (f : Flag) (e : MonitorEvent) :
    ({ s with
        slots := s.slots.set k { s.slots[k] with verdict := verdict, timer := timer }
        attention := s.attention ||| BitVec.twoPow 9 f.bit } : State).Counted e (s.degrade k verdict timer f e) ∧
      (s.degrade k verdict timer f e).PermitsFollow := by
  rw [State.degrade, State.takeEvent_evalPermits]
  exact ⟨takeEvent_counted .., takeEvent_permitsFollow _ _⟩

/-- A timer that has not run out, or is stopped, has no expiry (R89, log 4). -/
theorem exec_presentationTimerExpiry_idle (h : s.slots[k].timer ≠ some 0) :
    exec (.presentationTimerExpiry k) s = .next s := by
  show execPresentationTimerExpiry k s = .next s
  unfold execPresentationTimerExpiry
  split
  · exact absurd ‹_› h
  · exact absurd ‹_› h
  · exact absurd ‹_› h
  · rfl

/-- Settles O37: the verdict decides between the two degradations, each an event of the monitor. -/
theorem presentationTimerDegradesTheVerdict : Obligations.PresentationTimerDegradesTheVerdict := by
  unfold Obligations.PresentationTimerDegradesTheVerdict
  refine fun s k => ⟨exec_presentationTimerExpiry_idle, fun ht =>
    ⟨fun hv => ⟨_, ?_, degrade_counted s k .stale (some s.fullInterval) .stale (.stale k)⟩,
      fun hv => ⟨_, ?_, degrade_counted s k .lapsed none .lapse (.lapsed k)⟩⟩⟩
  · show execPresentationTimerExpiry k s = _
    rcases hv with hv | hv <;> simp only [execPresentationTimerExpiry, ht, hv]
  · show execPresentationTimerExpiry k s = _
    simp only [execPresentationTimerExpiry, ht, hv]

end Sys2Proof.Machine
end

/-! ## Requests to the line phase controller: what they share (R87, R96, R149 to R151) -/

section
namespace Sys2Proof.Machine

variable {s t : State} {l : LinkId} {k : ReqKind} {p payload : List Byte} {own : State → State × Answer} {r : Result}
  {f : FormatNo}

/-- An owning block that moves the line and answers leaves that and the answer. -/
theorem State.serve_movesLine (h : s.Attends l) (hs : s.screen l k p = none) {L : Line} {n : FormatNo} {E : Word16}
    {X : Vector Slot 6}
    (ho : own (s.serving l (kindCode k)) =
      ({ s.serving l (kindCode k) with line := L, active := n, epoch := E, slots := X }, .reply r payload)) :
    s.serve l k p own =
      { s.answered l (kindCode k) r payload with line := L, active := n, epoch := E, slots := X } := by
  rw [State.serve_replies h hs ho, ← State.respond_serving]
  rfl

/-- The requests of SUPERVISOR that move the line (R149). -/
def lineKinds : List ReqKind := [.lineChange, .lineExtend, .lineAbandon, .serviceEnter, .serviceLeave, .lineRestart]

/-- A request that moves the line passes for SUPERVISOR where phase and freeze let it (R149 to R151). -/
theorem State.screen_line (hk : k ∈ lineKinds) (h : s.Hears l .supervisor) (hl : lengthOk k p = true)
    (hp : phaseAdmits s.line .supervisor k = true) (hf : s.frozen = false ∨ freezeRefuses k p = false) :
    s.screen l k p = none := by
  have hrole : ∀ k ∈ lineKinds, roleMay .supervisor k p = true := by simp [lineKinds, roleMay]
  exact State.screen_passes hl (h.2 ▸ hrole k hk) (h.2 ▸ hp) hf

/-- A set of slots is the participants' when its members are the slots with a list (R7). -/
theorem participants_eq {x : FormatRecord} {parts : SlotSet}
    (h : ∀ k : SlotId, parts.getLsbD k.val = true ↔ x.lists[k] ≠ []) : x.participants = parts := by
  refine BitVec.eq_of_getLsbD_eq fun i hi => Bool.eq_iff_iff.2 ?_
  exact (inSet_participants x ⟨i, hi⟩).trans (h ⟨i, hi⟩).symm

/-- The line sets verdicts that release nothing: every permit is low (R87, R90). -/
theorem verdictsSet_setVerdicts {g : SlotId → Verdict} (hg : ∀ k, (g k).releases = false) (hslots : t.slots = s.slots) :
    verdictsSet s (t.setVerdicts g) g := by
  refine ⟨fun k => ?_, setVerdicts_permitsFollow t g⟩
  rw [Fin.getElem_fin, State.setVerdicts_slot]
  simp [hslots, permitLevel, hg]

theorem verdictsSet_congr {g : SlotId → Verdict} {u : State} (h : verdictsSet s t g) (hc : u.custody = t.custody) :
    verdictsSet s u g := by
  obtain ⟨hslots, hpermits⟩ := h
  exact ⟨by rwa [(State.custody_eq_iff.1 hc).2.2], hpermits.of_custody hc⟩

theorem pendingIn_releases (x : SlotSet) {other : Verdict} (h : other.releases = false) (k : SlotId) :
    (pendingIn x other k).releases = false := by
  unfold pendingIn
  split
  · rfl
  · exact h

theorem standDown_verdictsSet (h : t.slots = s.slots) : verdictsSet s t.standDown (fun _ => .none) :=
  verdictsSet_setVerdicts (fun _ => rfl) h

theorem startChangeover_verdictsSet (h : t.slots = s.slots) (f : FormatNo) (cause : Cause) :
    verdictsSet s (t.startChangeover f cause) (pendingIn (t.fmt f).participants .outside) :=
  verdictsSet_setVerdicts (pendingIn_releases _ rfl) h

theorem enterService_verdictsSet (h : t.slots = s.slots) (f : FormatNo) (kept : SlotSet) (ret : FormatNo) :
    verdictsSet s (t.enterService f kept ret) (pendingIn kept .parked) :=
  verdictsSet_setVerdicts (pendingIn_releases _ rfl) h

/-- PENDING for the participants of a format, by their lists (R7, R87). -/
theorem pendingIn_participants (x : FormatRecord) (other : Verdict) :
    pendingIn x.participants other = fun k => if x.lists[k] = [] then other else .pending := by
  funext k
  unfold pendingIn
  by_cases h : x.lists[k] = []
  · rw [if_pos h, if_neg (mt (inSet_participants x k).1 (not_not.2 h))]
  · rw [if_neg h, if_pos ((inSet_participants x k).2 h)]

/-! A stand-down, and the start of a changeover, as answers to a request. -/

/-- A request that stands the line down (R98, R122). -/
theorem State.serve_standsDown (h : s.Attends l) (hs : s.screen l k p = none)
    (ho : ∀ u, u.line = s.line → own u = (u.standDown, .reply .done u.standDown.changeBytes)) :
    ∃ t, s.serve l k p own = t ∧
      t = { s.answered l (kindCode k) .done ([0] ++ bytes2 (s.epoch + 1) ++ [0, 0, 0, 0, 0, 0]) with
            line := .noFormat, active := 0, epoch := s.epoch + 1, slots := t.slots } ∧
      verdictsSet s t (fun _ => .none) :=
  ⟨_, State.serve_movesLine h hs (ho (s.serving l (kindCode k)) rfl), rfl,
    verdictsSet_congr (standDown_verdictsSet (t := s.serving l (kindCode k)) rfl) rfl⟩

/-- The answer to the start of a changeover (section 11.4). -/
theorem startChangeover_changeBytes (s : State) (f : FormatNo) (cause : Cause) :
    (s.startChangeover f cause).changeBytes = [2] ++ bytes2 (s.epoch + 1) ++ num1 f.val ++ bytes2 (s.genOf f) ++
      [(s.fmt f).participants.setWidth 8] ++ num2 (s.fmt f).settle := by
  have hbytes : (s.startChangeover f cause).changeBytes = [2] ++ bytes2 (s.epoch + 1) ++
      (num1 f.val ++ bytes2 (s.genOf f) ++ [(s.fmt f).participants.setWidth 8] ++ num2 (s.fmt f).settle) := rfl
  rw [hbytes]
  simp only [List.append_assoc]

/-- A request that starts a changeover (R99, R123). -/
theorem State.serve_startsChangeover (h : s.Attends l) (hs : s.screen l k p = none) {cause : Cause} {parts : SlotSet}
    (hparts : ∀ j : SlotId, parts.getLsbD j.val = true ↔ (s.fmt f).lists[j] ≠ [])
    (ho : own (s.serving l (kindCode k)) = ((s.serving l (kindCode k)).startChangeover f cause,
      .reply .done ((s.serving l (kindCode k)).startChangeover f cause).changeBytes)) :
    ∃ t, s.serve l k p own = t ∧
      t = { s.answered l (kindCode k) .done
              ([2] ++ bytes2 (s.epoch + 1) ++ num1 f.val ++ bytes2 (s.genOf f) ++ [parts.setWidth 8]
                ++ num2 (s.fmt f).settle) with
            line := .changeover (contextTo s f cause parts) (1000 * (s.fmt f).settle)
            epoch := s.epoch + 1
            slots := t.slots } ∧
      verdictsSet s t (fun j => if parts.getLsbD j.val then .pending else .outside) := by
  obtain rfl := participants_eq hparts
  rw [startChangeover_changeBytes] at ho
  exact ⟨_, State.serve_movesLine h hs ho, rfl,
    verdictsSet_congr (startChangeover_verdictsSet (t := s.serving l (kindCode k)) rfl f cause) rfl⟩

theorem sealedAs_iff (s : State) (f : FormatNo) (kind : FormatKind) :
    s.sealedAs f kind = true ↔ (s.fmt f).state = .sealed ∧ (s.fmt f).kind = kind := by
  simp [State.sealedAs]

/-- A format that is not SEALED, or of the other kind, is not what the line asks for. -/
theorem sealedAs_eq_false {kind other : FormatKind} (hne : other ≠ kind)
    (h : (s.fmt f).state ≠ .sealed ∨ (s.fmt f).kind = other) : s.sealedAs f kind = false := by
  refine Bool.eq_false_iff.2 fun hs => ?_
  obtain ⟨hsealed, hkind⟩ := (sealedAs_iff s f kind).1 hs
  rcases h with h | h
  · exact h hsealed
  · exact hne (h.symm.trans hkind)

end Sys2Proof.Machine
end

/-! ## LINE-CHANGE (R97 to R99) -/

section
namespace Sys2Proof.Machine

variable {s : State} {l : LinkId} {p : List Byte} {f : FormatNo}

theorem ownLineChange_range (h : 31 < (byteAt p 0).toNat) : ownLineChange p s = (s, .reply .range []) := by
  simp only [ownLineChange, formatOf_of_gt h]

/-- LINE-CHANGE to a format other than F0: marker, then the format, then the changeover. -/
theorem ownLineChange_eq (hf : f ≠ 0) (hb : (byteAt p 0).toNat = f.val) : ownLineChange p s =
    if s.planPending then (s, .reply .busy [])
    else if !s.sealedAs f .production then (s, .reply .state [])
    else (s.startChangeover f .order, .reply .done (s.startChangeover f .order).changeBytes) := by
  simp only [ownLineChange, formatOf_of_val hb, if_neg hf]

theorem ownLineChange_zero_run (h : s.line = .run) :
    ownLineChange [0] s = (s.standDown, .reply .done s.standDown.changeBytes) := by
  have hzero : formatOf (byteAt [0] 0) = some 0 := by decide
  simp only [ownLineChange, hzero, if_pos, h]

theorem ownLineChange_zero_noFormat (h : s.line = .noFormat) :
    ownLineChange [0] s = (s, .reply .done ([0] ++ bytes2 s.epoch ++ [0, 0, 0, 0, 0, 0])) := by
  have hzero : formatOf (byteAt [0] 0) = some 0 := by decide
  have hbytes : s.changeBytes = [0] ++ bytes2 s.epoch ++ [0, 0, 0, 0, 0, 0] := by
    simp [State.changeBytes, State.phaseEpoch, h, Line.phaseCode, Line.changeover?]
  simp only [ownLineChange, hzero, if_pos, h, hbytes]

theorem phaseAdmits_of_free (h : s.line = .noFormat ∨ s.line = .run) {role : Role} {k : ReqKind}
    (hk : k ∈ [.lineChange, .serviceEnter]) : phaseAdmits s.line role k = true := by
  simp only [List.mem_cons, List.not_mem_nil, or_false] at hk
  rcases h with h | h <;> rcases hk with rfl | rfl <;> rw [h] <;> rfl

/-- Settles O38: past RANGE the block's outcome is one equation, whose branches are BUSY, STATE and the changeover; the
change to F0 passes the freeze and stands a RUN down. -/
theorem lineChangeStartsOrStandsDown : Obligations.LineChangeStartsOrStandsDown := by
  unfold Obligations.LineChangeStartsOrStandsDown
  constructor
  · intro s l p hears hline hfrozen hlen
    have hpass : s.screen l .lineChange p = none :=
      State.screen_line (by decide) hears (by simp [lengthOk, hlen]) (phaseAdmits_of_free hline (by decide)) (.inl hfrozen)
    have hmarker : (s.serving l 0x20).planPending = s.planPending := rfl
    have hsealed (f : FormatNo) : (s.serving l 0x20).sealedAs f .production = s.sealedAs f .production := rfl
    refine ⟨fun h => congrArg _ (State.serve_answers hears.1 hpass (ownLineChange_range h)), fun f hf hb => ?_⟩
    have hown := ownLineChange_eq (s := s.serving l 0x20) hf hb
    rw [hmarker, hsealed] at hown
    refine ⟨fun hbusy => ?_, fun hfree hstate => ?_, fun hfree hstate hkind parts hparts => ?_⟩
    · exact congrArg _ (State.serve_answers hears.1 hpass (hown.trans (if_pos hbusy)))
    · rw [if_neg (by simp [hfree]), sealedAs_eq_false (by decide) hstate] at hown
      exact congrArg _ (State.serve_answers hears.1 hpass hown)
    · rw [if_neg (by simp [hfree]), (sealedAs_iff s f .production).2 ⟨hstate, hkind⟩] at hown
      obtain ⟨t, ht, heq, hset⟩ := State.serve_startsChangeover hears.1 hpass hparts hown
      rw [num1_of_val hb] at heq
      exact ⟨t, congrArg _ ht, heq, hset⟩
  · intro s l hears
    have hpass (hline : s.line = .noFormat ∨ s.line = .run) : s.screen l .lineChange [0] = none :=
      State.screen_line (by decide) hears rfl (phaseAdmits_of_free hline (by decide)) (.inr rfl)
    refine ⟨fun hline => ?_, fun hline => ?_⟩
    · exact congrArg _ (State.serve_answers hears.1 (hpass (.inl hline))
        (ownLineChange_zero_noFormat (s := s.serving l 0x20) hline))
    · obtain ⟨t, ht, h⟩ := State.serve_standsDown (own := ownLineChange [0]) hears.1 (hpass (.inr hline))
        fun u hu => ownLineChange_zero_run (hu.trans hline)
      exact ⟨t, congrArg _ ht, h⟩

end Sys2Proof.Machine
end

/-! ## LINE-ABANDON (R107, R108) -/

section
namespace Sys2Proof.Machine

variable {s : State} {l : LinkId} {c : Changeover}

/-- The response of a request and an event of the monitor change different parts. -/
theorem respond_takeEvent (s : State) (l : LinkId) (r : Result) (b : List Byte) (e : MonitorEvent) :
    (s.takeEvent e).respond l r b = (s.respond l r b).takeEvent e := by
  have hoverflows : (s.setLink l ((s.link l).respond r b)).overflows e = s.overflows e := rfl
  simp only [State.respond, State.takeEvent, hoverflows]
  cases s.overflows e <;> rfl

/-- An abandon under cause ORDER with an origin other than F0 returns the line to that origin (R108). -/
theorem afterAbandon_origin (hcause : c.cause = .order) (horigin : c.origin ≠ 0) (s : State) : s.afterAbandon c =
    ({ s with line := .run, active := c.origin, epoch := s.epoch + 1 } : State).setVerdicts
      (pendingIn (s.fmt c.origin).participants .outside) :=
  if_pos ⟨hcause, horigin⟩

/-- Any other abandon stands the line down (R108). -/
theorem afterAbandon_standDown (h : c.cause = .serviceReturn ∨ c.origin = 0) (s : State) :
    s.afterAbandon c = s.standDown := by
  refine if_neg fun ⟨hcause, horigin⟩ => ?_
  rcases h with h | h
  · rw [hcause] at h
    cases h
  · exact horigin h

/-- All that the line does in an abandon. -/
theorem afterAbandon_frame (s : State) (c : Changeover) : s.afterAbandon c =
    { s with
      line := (s.afterAbandon c).line
      active := (s.afterAbandon c).active
      epoch := s.epoch + 1
      slots := (s.afterAbandon c).slots } := by
  unfold State.afterAbandon
  split <;> rfl

/-- The answer to an abandon: phase and active format as they stand after it, under the next epoch (section 11.4). -/
theorem abandon_lineBytes (s : State) (c : Changeover) : (s.abandon c).lineBytes =
    [(s.afterAbandon c).line.phaseCode] ++ num1 (s.afterAbandon c).active.val ++ bytes2 (s.epoch + 1) := by
  have hepoch : (s.afterAbandon c).epoch = s.epoch + 1 := by rw [afterAbandon_frame]
  simp only [State.lineBytes, State.abandon, State.takeEvent_line, State.takeEvent_active, State.takeEvent_epoch,
    State.raise_line, State.raise_active, State.raise_epoch, hepoch]

/-- The state in which ABANDON is counted: the line has moved, the flag is set, the response is produced. -/
def State.abandoned (s : State) (l : LinkId) (c : Changeover) : State :=
  (((s.serving l 0x22).afterAbandon c).raise .abandon).respond l .done ((s.serving l 0x22).abandon c).lineBytes

theorem abandoned_eq (s : State) (l : LinkId) (c : Changeover) : s.abandoned l c =
    { s.answered l 0x22 .done ((s.serving l 0x22).abandon c).lineBytes with
      line := (s.abandoned l c).line
      active := (s.abandoned l c).active
      epoch := s.epoch + 1
      attention := s.attention ||| 0x004
      slots := (s.abandoned l c).slots } := by
  rw [State.abandoned, afterAbandon_frame, ← State.respond_serving]
  rfl

theorem abandoned_custody (s : State) (l : LinkId) (c : Changeover) :
    (s.abandoned l c).custody = ((s.serving l 0x22).afterAbandon c).custody := rfl

theorem exec_lineAbandon (hears : s.Hears l .supervisor) (hc : s.line.changeover? = some c) :
    exec (.lineAbandon l []) s = .next ((s.abandoned l c).takeEvent .abandon) := by
  have hpass : s.screen l .lineAbandon [] = none :=
    State.screen_line (by decide) hears rfl (by simp [phaseAdmits, hc]) (.inr rfl)
  have hown : ownLineAbandon (s.serving l 0x22) =
      ((s.serving l 0x22).abandon c, .reply .done ((s.serving l 0x22).abandon c).lineBytes) := by
    have hc' : (s.serving l 0x22).line.changeover? = some c := hc
    simp only [ownLineAbandon, hc']
  exact congrArg _ ((State.serve_replies hears.1 hpass hown).trans (respond_takeEvent ..))

/-- Settles O40: the line moves by origin and cause, and the event is counted on what that leaves. -/
theorem lineAbandonReturnsTheLine : Obligations.LineAbandonReturnsTheLine := by
  unfold Obligations.LineAbandonReturnsTheLine
  intro s l c hears hc
  have hframe := abandoned_eq s l c
  rw [abandon_lineBytes] at hframe
  refine ⟨s.abandoned l c, _, _, exec_lineAbandon hears hc, hframe, takeEvent_counted _ _, takeEvent_permitsFollow _ _,
    fun hcause horigin => ?_, fun hdown => ?_⟩
  · have hafter := afterAbandon_origin hcause horigin (s.serving l 0x22)
    refine ⟨congrArg State.line hafter, congrArg State.active hafter, by rw [hafter]; rfl, ?_⟩
    refine verdictsSet_congr (t := (s.serving l 0x22).afterAbandon c) ?_ (abandoned_custody s l c)
    rw [hafter, ← pendingIn_participants]
    exact verdictsSet_setVerdicts (pendingIn_releases _ rfl) rfl
  · have hafter := afterAbandon_standDown hdown (s.serving l 0x22)
    refine ⟨congrArg State.line hafter, congrArg State.active hafter, by rw [hafter]; rfl, ?_⟩
    refine verdictsSet_congr (t := (s.serving l 0x22).afterAbandon c) ?_ (abandoned_custody s l c)
    rw [hafter]
    exact standDown_verdictsSet rfl

end Sys2Proof.Machine
end

/-! ## SERVICE-ENTER (R116, R117) -/

section
namespace Sys2Proof.Machine

variable {s : State} {l : LinkId} {p : List Byte} {f ret : FormatNo} {kept : SlotSet} {b : Byte}

theorem slotSetOf_of_val (h : b.toNat = kept.toNat) : slotSetOf b = some kept := by
  have hlt := kept.isLt
  rw [slotSetOf, if_pos (by omega)]
  refine congrArg some (BitVec.eq_of_toNat_eq ?_)
  rw [BitVec.toNat_setWidth, h, Nat.mod_eq_of_lt hlt]

theorem slotSetOf_of_gt (h : 63 < b.toNat) : slotSetOf b = none := if_neg (by omega)

/-- A set of slots written in one byte is the byte it was read from. -/
theorem set1_of_val (h : b.toNat = kept.toNat) : set1 kept = [b] := by
  have hlt := kept.isLt
  refine congrArg (fun x => [x]) (BitVec.eq_of_toNat_eq ?_)
  rw [BitVec.toNat_setWidth, ← h, Nat.mod_eq_of_lt b.isLt]

/-- A set of slots has none outside the participants when each of its slots has a list (R7, R116). -/
theorem kept_outside_eq_zero (x : FormatRecord) (kept : SlotSet) : kept &&& ~~~x.participants = 0 ↔
    ∀ k : SlotId, kept.getLsbD k.val = true → x.lists[k] ≠ [] := by
  have hbit (k : SlotId) : (kept &&& ~~~x.participants).getLsbD k.val = false ↔
      (kept.getLsbD k.val = true → x.lists[k] ≠ []) := by
    have hpart : x.participants.getLsbD k.val = true ↔ x.lists[k] ≠ [] := inSet_participants x k
    simp only [← hpart, BitVec.getLsbD_and, BitVec.getLsbD_not, k.isLt, decide_true, Bool.true_and]
    cases kept.getLsbD k.val <;> simp only [Bool.false_and, Bool.true_and, Bool.not_eq_false', false_imp_iff, true_imp_iff,
      Bool.false_eq_true]
  constructor
  · intro h k
    exact (hbit k).1 (by rw [h]; simp)
  · exact fun h => BitVec.eq_of_getLsbD_eq fun i hi => by simpa using (hbit ⟨i, hi⟩).2 (h ⟨i, hi⟩)

/-- The return format of a SERVICE-ENTER: given, or the active format when 0xFF stands for it (R116). -/
theorem returnFormat_eq
    (h : (byteAt p 2 = 0xFF ∧ ret = s.active) ∨ (byteAt p 2 ≠ 0xFF ∧ (byteAt p 2).toNat = ret.val)) :
    (if returnGiven p then formatOf (byteAt p 2) else some s.active) = some ret := by
  rcases h with ⟨h, rfl⟩ | ⟨h, hret⟩
  · rw [if_neg (by simp [returnGiven, h])]
  · rw [if_pos (by simpa [returnGiven] using h), formatOf_of_val hret]

theorem ownServiceEnter_range (h : byteAt p 0 = 0 ∨ 31 < (byteAt p 0).toNat ∨ byteAt p 1 = 0 ∨
    63 < (byteAt p 1).toNat ∨ (byteAt p 2 ≠ 0xFF ∧ 31 < (byteAt p 2).toNat)) :
    ownServiceEnter p s = (s, .reply .range []) := by
  unfold ownServiceEnter
  split
  · rename_i hf hk hr
    rw [if_pos]
    rcases or_assoc.2 h with h | h | h | ⟨hgiven, h⟩
    · simp [storableOf_none h] at hf
    · rw [h] at hk
      exact (Option.some.inj hk).symm
    · simp [slotSetOf_of_gt h] at hk
    · rw [if_pos (by simpa [returnGiven] using hgiven), formatOf_of_gt h] at hr
      cases hr
  · rfl

/-- SERVICE-ENTER with fields in range: marker, service format, kept set, return format, then the entry. -/
theorem ownServiceEnter_eq (hf : f ≠ 0) (hb : (byteAt p 0).toNat = f.val) (hkept : kept ≠ 0)
    (hk : (byteAt p 1).toNat = kept.toNat)
    (hr : (byteAt p 2 = 0xFF ∧ ret = s.active) ∨ (byteAt p 2 ≠ 0xFF ∧ (byteAt p 2).toNat = ret.val)) :
    ownServiceEnter p s =
      if s.planPending then (s, .reply .busy [])
      else if !s.sealedAs f .service then (s, .reply .state [])
      else if kept &&& ~~~(s.fmt f).participants ≠ 0 then (s, .reply .range [])
      else if returnGiven p && ret != 0 && !s.sealedAs ret .production then (s, .reply .state [])
      else (s.enterService f kept ret, .reply .done (s.enterService f kept ret).enterBytes) := by
  simp only [ownServiceEnter, storableOf_of_val hf hb, slotSetOf_of_val hk, returnFormat_eq hr, if_neg hkept]

theorem refusesReturn_iff : (returnGiven p && ret != 0 && !s.sealedAs ret .production) = true ↔
    byteAt p 2 ≠ 0xFF ∧ ret ≠ 0 ∧ s.sealedAs ret .production = false := by
  simp only [returnGiven, Bool.and_eq_true, bne_iff_ne, Bool.not_eq_true', and_assoc]

/-- The answer to an entry into SERVICE (section 11.4). -/
theorem enterService_enterBytes (s : State) (f : FormatNo) (kept : SlotSet) (ret : FormatNo) :
    (s.enterService f kept ret).enterBytes = [4] ++ bytes2 (s.epoch + 1) ++ num1 f.val ++ bytes2 (s.genOf f) ++
      num1 (s.fmt f).interval ++ set1 kept ++ num1 ret.val ++ bytes2 (s.genOf ret) := rfl

/-- A request that enters SERVICE (R117). -/
theorem State.serve_entersService {k : ReqKind} {own : State → State × Answer} (h : s.Attends l)
    (hs : s.screen l k p = none) (ho : own (s.serving l (kindCode k)) = ((s.serving l (kindCode k)).enterService f kept ret,
      .reply .done ((s.serving l (kindCode k)).enterService f kept ret).enterBytes)) :
    ∃ t, s.serve l k p own = t ∧
      t = { s.answered l (kindCode k) .done ([4] ++ bytes2 (s.epoch + 1) ++ num1 f.val ++ bytes2 (s.genOf f) ++
              num1 (s.fmt f).interval ++ set1 kept ++ num1 ret.val ++ bytes2 (s.genOf ret)) with
            line := .service kept ret (s.genOf ret)
            active := f
            epoch := s.epoch + 1
            slots := t.slots } ∧
      verdictsSet s t (fun j => if kept.getLsbD j.val then .pending else .parked) := by
  rw [enterService_enterBytes] at ho
  exact ⟨_, State.serve_movesLine h hs ho, rfl,
    verdictsSet_congr (enterService_verdictsSet (t := s.serving l (kindCode k)) rfl f kept ret) rfl⟩

/-- Settles O41: past RANGE the block's outcome is one equation, whose branches are the refusals of R116 in order and the
entry. -/
theorem serviceEnterParksTheRest : Obligations.ServiceEnterParksTheRest := by
  unfold Obligations.ServiceEnterParksTheRest
  intro s l p hears hline hfrozen hlen
  have hpass : s.screen l .serviceEnter p = none :=
    State.screen_line (by decide) hears (by simp [lengthOk, hlen]) (phaseAdmits_of_free hline (by decide)) (.inl hfrozen)
  have hmarker : (s.serving l 0x23).planPending = s.planPending := rfl
  have hsealed (f : FormatNo) (kind : FormatKind) : (s.serving l 0x23).sealedAs f kind = s.sealedAs f kind := rfl
  have answers {r : Result} (ho : ownServiceEnter p (s.serving l 0x23) = (s.serving l 0x23, .reply r [])) :
      exec (.serviceEnter l p) s = .next (s.answered l 0x23 r []) :=
    congrArg _ (State.serve_answers hears.1 hpass ho)
  refine ⟨fun h => answers (ownServiceEnter_range h), fun f ret kept hf hb hkept hk hr => ?_⟩
  have hown := ownServiceEnter_eq (s := s.serving l 0x23) hf hb hkept hk hr
  rw [hmarker, hsealed, hsealed, State.serving_fmt] at hown
  refine ⟨fun hbusy => answers (hown.trans (if_pos hbusy)), fun hfree hstate => ?_, fun hfree hstate hkind => ?_⟩
  · rw [if_neg (by simp [hfree]), sealedAs_eq_false (by decide) hstate] at hown
    exact answers hown
  · rw [if_neg (by simp [hfree]), (sealedAs_iff s f .service).2 ⟨hstate, hkind⟩, if_neg (by decide)] at hown
    refine ⟨fun ⟨k, hin, hlist⟩ => ?_, fun hlists => ?_⟩
    · exact answers (hown.trans (if_pos fun h => (kept_outside_eq_zero _ _).1 h k hin hlist))
    · rw [if_neg (not_not.2 ((kept_outside_eq_zero _ _).2 hlists))] at hown
      refine ⟨fun ⟨hgiven, hne, hret⟩ => ?_, fun hret => ?_⟩
      · exact answers (hown.trans (if_pos (refusesReturn_iff.2 ⟨hgiven, hne, sealedAs_eq_false (by decide) hret⟩)))
      · have hpasses : ¬ (returnGiven p && ret != 0 && !s.sealedAs ret .production) = true := fun h => by
          obtain ⟨hgiven, hne, hnot⟩ := refusesReturn_iff.1 h
          rcases hret with h | h | h
          · exact hgiven h
          · exact hne h
          · rw [(sealedAs_iff s ret .production).2 h] at hnot
            cases hnot
        rw [if_neg hpasses] at hown
        obtain ⟨t, ht, heq, hset⟩ := State.serve_entersService hears.1 hpass hown
        rw [num1_of_val hb, set1_of_val hk] at heq
        exact ⟨t, congrArg _ ht, heq, hset⟩

end Sys2Proof.Machine
end

/-! ## SERVICE-LEAVE (R122, R123) and LINE-RESTART (R111, R161) -/

section
namespace Sys2Proof.Machine

variable {s : State} {l : LinkId} {ret : FormatNo} {kept : SlotSet} {g : Word16}

theorem ownServiceLeave_standsDown (h : s.line = .service kept 0 g) :
    ownServiceLeave s = (s.standDown, .reply .done s.standDown.changeBytes) := by
  simp only [ownServiceLeave, h, State.leaveService, if_true]

theorem ownServiceLeave_startsChangeover (h : s.line = .service kept ret g) (hret : ret ≠ 0) : ownServiceLeave s =
    (s.startChangeover ret .serviceReturn, .reply .done (s.startChangeover ret .serviceReturn).changeBytes) := by
  simp only [ownServiceLeave, h, State.leaveService, if_neg hret]

/-- Settles O42: F0 as the return format stands the line down, any other starts a changeover. -/
theorem serviceLeaveFollowsTheReturnFormat : Obligations.ServiceLeaveFollowsTheReturnFormat := by
  unfold Obligations.ServiceLeaveFollowsTheReturnFormat
  intro s l kept ret g hears hline
  have hpass : s.screen l .serviceLeave [] = none :=
    State.screen_line (by decide) hears rfl (by rw [hline]; rfl) (.inr rfl)
  constructor
  · rintro rfl
    obtain ⟨t, ht, h⟩ := State.serve_standsDown (own := ownServiceLeave) hears.1 hpass
      fun u hu => ownServiceLeave_standsDown (hu.trans hline)
    exact ⟨t, congrArg _ ht, h⟩
  · intro hret parts hparts
    obtain ⟨t, ht, h⟩ := State.serve_startsChangeover hears.1 hpass hparts
      (ownServiceLeave_startsChangeover (s := s.serving l 0x24) hline hret)
    exact ⟨t, congrArg _ ht, h⟩

/-- Every tracker after a restart (R111). -/
theorem restart_emptied (s : State) (k : SlotId) : s.restart.slots[k].verdict = .none ∧ s.restart.slots[k].timer = none ∧
    s.restart.slots[k].memory = none ∧ s.restart.slots[k].summary = none ∧ s.restart.slots[k].permit = false := by
  obtain ⟨hverdict, htimer, -, -, hpermit⟩ := (standDown_verdictsSet (s := s) (t := s) rfl).1 k
  rw [restart_slot]
  exact ⟨hverdict, htimer, rfl, rfl, hpermit⟩

/-- Settles O43: the restart passes in every phase; it stands the line down and empties the trackers. -/
theorem lineRestartEmptiesTheTrackers : Obligations.LineRestartEmptiesTheTrackers := by
  unfold Obligations.LineRestartEmptiesTheTrackers
  intro s l hears
  have hpass : s.screen l .lineRestart [] = none := State.screen_line (by decide) hears rfl rfl (.inr rfl)
  have hown : ownLineRestart (s.serving l 0x25) =
      ((s.serving l 0x25).restart, .reply .done ([0, 0] ++ bytes2 (s.epoch + 1))) := rfl
  exact ⟨_, congrArg Host.Outcome.next (State.serve_movesLine hears.1 hpass hown), rfl,
    restart_emptied (s.serving l 0x25), (restart_permitsFollow (s.serving l 0x25)).of_custody rfl⟩

end Sys2Proof.Machine
end

/-! ## The settle timer's expiry and LINE-EXTEND (R102, R106) -/

section
namespace Sys2Proof.Machine

variable {s : State} {l : LinkId} {c : Changeover}

/-- A settle timer that has run out stalls the changeover, which is counted (R102). -/
theorem exec_settleTimerExpiry_stalls (h : s.line = .changeover c 0) : exec .settleTimerExpiry s =
    .next (({ s with line := .stalled c } : State).raise .stall |>.takeEvent .stall) := by
  show execSettleTimerExpiry s = _
  simp only [execSettleTimerExpiry, h]

/-- A settle timer with time left, or in another phase none, has no expiry (R102, logs 4 and 18). -/
theorem exec_settleTimerExpiry_idle (h : ∀ c, s.line ≠ .changeover c 0) : exec .settleTimerExpiry s = .next s := by
  show execSettleTimerExpiry s = .next s
  unfold execSettleTimerExpiry
  split
  · exact absurd ‹_› (h _)
  all_goals rfl

theorem ownLineExtend_range (hc : s.line.changeover? = some c) (h : 3 ≤ c.extensions) :
    ownLineExtend s = (s, .reply .range []) := by
  simp only [ownLineExtend, hc]
  exact if_pos h

theorem ownLineExtend_extends (hc : s.line.changeover? = some c) (h : c.extensions < 3) : ownLineExtend s =
    ({ s with line := .changeover { c with extensions := c.extensions + 1 } (seconds (s.fmt c.target).settle) },
     .reply .done (num1 (c.extensions + 1) ++ num2 (s.fmt c.target).settle)) := by
  simp only [ownLineExtend, hc]
  exact if_neg (Nat.not_le.2 h)

/-- Settles O39: the line decides whether the expiry stalls, and the extensions used whether one more is given. -/
theorem stallAndExtension : Obligations.StallAndExtension := by
  unfold Obligations.StallAndExtension
  refine ⟨fun s => ⟨fun c hline => ⟨_, exec_settleTimerExpiry_stalls hline, takeEvent_counted _ _,
    takeEvent_permitsFollow _ _⟩, exec_settleTimerExpiry_idle⟩, fun s l c hears hc => ?_⟩
  have hpass : s.screen l .lineExtend [] = none :=
    State.screen_line (by decide) hears rfl (by simp [phaseAdmits, hc]) (.inr rfl)
  have hc' : (s.serving l 0x21).line.changeover? = some c := hc
  exact ⟨fun h => congrArg _ (State.serve_answers hears.1 hpass (ownLineExtend_range hc' h)),
    fun h => congrArg _ (State.serve_movesLine hears.1 hpass (ownLineExtend_extends hc' h))⟩

end Sys2Proof.Machine
end

/-! ## What leaves the epoch alone (R96)

The named updates of the enrollment unit, the assembler, the comparator, the program engine and the scan. -/

section
namespace Sys2Proof.Machine

variable {s : State} {l : LinkId}

@[simp] theorem State.emptyFormat_epoch (f : FormatNo) : (s.emptyFormat f).epoch = s.epoch := by
  simp [State.emptyFormat]

@[simp] theorem State.readRestarts_epoch (f : FormatNo) : (s.readRestarts l f).epoch = s.epoch := by
  rw [readRestarts_eq]

@[simp] theorem State.discard_epoch (c : EnrollContext) : (s.discard c).epoch = s.epoch := by
  simp [State.discard]

@[simp] theorem State.openFormat_epoch (f : FormatNo) (kind : FormatKind) :
    (s.openFormat l f kind).epoch = s.epoch := by
  simp [State.openFormat]

@[simp] theorem State.addEntry_epoch (c : EnrollContext) (k : SlotId) (e : RefEntry) :
    (s.addEntry c k e).epoch = s.epoch := by
  simp [State.addEntry]

@[simp] theorem State.dropEntry_epoch (c : EnrollContext) (k : SlotId) (id : Word16) :
    (s.dropEntry c k id).epoch = s.epoch := by
  simp [State.dropEntry]

@[simp] theorem State.setFields_epoch (c : EnrollContext) (tag : List Byte) (settle interval : Nat) :
    (s.setFields c tag settle interval).epoch = s.epoch := by
  simp [State.setFields]

@[simp] theorem State.beginSeal_epoch (c : EnrollContext) : (s.beginSeal l c).epoch = s.epoch := by
  simp [State.beginSeal]

@[simp] theorem State.beginRetire_epoch (f : FormatNo) : (s.beginRetire l f).epoch = s.epoch :=
  State.emptyFormat_epoch (s := s) f

@[simp] theorem State.finishSeal_epoch (f : FormatNo) : (s.finishSeal f).epoch = s.epoch := by
  simp [State.finishSeal]

@[simp] theorem State.failSeal_epoch (f : FormatNo) : (s.failSeal f).epoch = s.epoch := by
  simp [State.failSeal]

@[simp] theorem State.startComparison_epoch : s.startComparison.epoch = s.epoch := by
  rw [State.startComparison_eq]
  split <;> rfl

@[simp] theorem State.queueVerification_epoch (v : Verification) : (s.queueVerification l v).epoch = s.epoch := by
  simp [State.queueVerification]

@[simp] theorem State.cancelManifest_epoch : (s.cancelManifest l).epoch = s.epoch := by
  rw [State.cancelManifest_frame]

@[simp] theorem State.respondTo_epoch (c : Option LinkId) (r : Result) (b : List Byte) :
    (s.respondTo c r b).epoch = s.epoch := by
  cases c <;> rfl

@[simp] theorem State.setPlanArea_epoch (i : PlanAreaId) (a : PlanArea) : (s.setPlanArea i a).epoch = s.epoch := by
  cases i <;> rfl

@[simp] theorem State.sealSteps_epoch (f : FormatNo) (n : Nat) : (s.sealSteps f n).epoch = s.epoch := by
  unfold State.sealSteps
  split <;> simp [State.writeGenTable]

@[simp] theorem State.retireSteps_epoch (f : FormatNo) (n : Nat) : (s.retireSteps f n).epoch = s.epoch := by
  unfold State.retireSteps
  split <;> simp

@[simp] theorem State.planSteps_epoch (plan : Plan) (n : Nat) : (s.planSteps plan n).epoch = s.epoch := by
  unfold State.planSteps
  split <;> simp

@[simp] theorem State.scanArea_epoch (fails : List FormatNo) (f : FormatNo) :
    (s.scanArea fails f).epoch = s.epoch := by
  rcases s.scanArea_cases fails f with ⟨-, e⟩ | ⟨r, -, -, e⟩ | ⟨-, -, e⟩
  · rw [e]
  · simp [e]
  · rw [e, State.raise_epoch]
    split
    · rfl
    · exact State.setArea_epoch ..

theorem State.scanAreas_epoch (fails : List FormatNo) (fs : List FormatNo) :
    (fs.foldl (State.scanArea fails) s).epoch = s.epoch := by
  induction fs generalizing s with
  | nil => rfl
  | cons f fs ih => exact ih.trans (State.scanArea_epoch fails f)

@[simp] theorem State.startUpScan_epoch (fails : List FormatNo) : (s.startUpScan fails).epoch = s.epoch :=
  (State.scanAreas_epoch fails _).trans (State.raiseIf_epoch ..)

@[simp] theorem State.scanErase_epoch (i : PlanAreaId) (fails : Bool) : (s.scanErase i fails).epoch = s.epoch := by
  unfold State.scanErase
  split <;> simp

@[simp] theorem State.scanPlanArea_epoch (i : PlanAreaId) (fails : Bool) :
    (s.scanPlanArea i fails).epoch = s.epoch := by
  unfold State.scanPlanArea
  split <;> simp

@[simp] theorem State.endScan_epoch (a b : Bool) : (s.endScan a b).epoch = s.epoch := by
  unfold State.endScan
  simp only
  split <;> simp

end Sys2Proof.Machine
end

/-! ## The epoch after a request (R96) -/

section
namespace Sys2Proof.Machine

variable {s t : State} {l : LinkId} {k : ReqKind} {p : List Byte}

/-- The requests that change which format a verification is taken against (R96). -/
def basisKinds : List ReqKind := [.lineChange, .lineAbandon, .serviceEnter, .serviceLeave, .lineRestart]

/-- The epoch is as it was, or one more. -/
def State.EpochStep (s t : State) : Prop := t.epoch = s.epoch ∨ t.epoch = s.epoch + 1

/-! Each block that moves the line. -/

theorem ownLineChange_epoch : s.EpochStep (ownLineChange p s).1 := by
  unfold ownLineChange
  split
  · exact .inl rfl
  · split
    · split
      · exact .inr rfl
      all_goals exact .inl rfl
    · split
      · exact .inl rfl
      · split
        · exact .inl rfl
        · exact .inr rfl

theorem ownLineAbandon_epoch : s.EpochStep (ownLineAbandon s).1 := by
  unfold ownLineAbandon
  split
  · rename_i c _
    refine .inr ?_
    simp only [State.abandon, State.takeEvent_epoch, State.raise_epoch]
    rw [afterAbandon_frame]
  · exact .inl rfl

theorem ownServiceEnter_epoch : s.EpochStep (ownServiceEnter p s).1 := by
  unfold ownServiceEnter
  split
  · repeat (split; exact .inl rfl)
    exact .inr rfl
  · exact .inl rfl

theorem ownServiceLeave_epoch : s.EpochStep (ownServiceLeave s).1 := by
  unfold ownServiceLeave
  split
  · unfold State.leaveService
    split <;> exact .inr rfl
  all_goals exact .inl rfl

/-! Every other block. -/

/-- A request of any other kind leaves the epoch: the reads change nothing, and each branch of the others ends in a named
update that leaves it. -/
theorem ownBlock_epoch_of_not_basis (h : k ∉ basisKinds) : (ownBlock l p k s).1.epoch = s.epoch := by
  cases k with
  | lineChange | lineAbandon | serviceEnter | serviceLeave | lineRestart => exact absurd (by decide) h
  | ident | statusRead | planRead | monitorRead => rfl
  | slotRead | attentionClear =>
    simp only [ownBlock, ownSlotRead, ownAttentionClear]
    split <;> rfl
  | lineExtend =>
    simp only [ownBlock, ownLineExtend, State.extend]
    repeat' split
    all_goals rfl
  | planWrite | monitorSet | tripClear =>
    simp only [ownBlock, ownPlanWrite, ownMonitorSet, ownTripClear]
    repeat' split
    all_goals rfl
  | manifestBegin | manifestPart | manifestEnd =>
    simp only [ownBlock, ownManifestBegin, ownManifestPart, ownManifestEnd]
    repeat' split
    all_goals simp only [State.setBuffer_epoch, State.queueVerification_epoch]
  | formatOpen | entryAdd | entryDrop | formatSet =>
    simp only [ownBlock, ownFormatOpen, ownEntryAdd, ownEntryDrop, ownFormatSet]
    repeat' split
    all_goals simp only [State.openFormat_epoch, State.addEntry_epoch, State.dropEntry_epoch, State.setFields_epoch]
  | formatSeal | formatDiscard | formatRetire =>
    simp only [ownBlock, ownFormatSeal, ownFormatDiscard, ownFormatRetire]
    repeat' split
    all_goals simp only [State.beginSeal_epoch, State.discard_epoch, State.beginRetire_epoch]
  | formatRead | entryRead =>
    simp only [ownBlock, ownFormatRead, ownEntryRead]
    repeat' split
    all_goals simp only [State.readRestarts_epoch]

/-- A block moves the epoch by one at most, and only for a request that changes the basis (R96). -/
theorem ownBlock_epoch (l : LinkId) (p : List Byte) (k : ReqKind) (s : State) :
    (ownBlock l p k s).1.epoch = s.epoch ∨ k ∈ basisKinds ∧ (ownBlock l p k s).1.epoch = s.epoch + 1 := by
  by_cases h : k ∈ basisKinds
  · refine Or.imp_right (⟨h, ·⟩) (show s.EpochStep (ownBlock l p k s).1 from ?_)
    simp only [basisKinds, List.mem_cons, List.not_mem_nil, or_false] at h
    rcases h with rfl | rfl | rfl | rfl | rfl
    · exact ownLineChange_epoch
    · exact ownLineAbandon_epoch
    · exact ownServiceEnter_epoch
    · exact ownServiceLeave_epoch
    · exact .inr rfl
  · exact .inl (ownBlock_epoch_of_not_basis h)

/-! The service of a request, and a frame. -/

/-- The service of a request leaves the epoch to the owning block. -/
theorem State.serve_epoch (s : State) (l : LinkId) (k : ReqKind) (p : List Byte) (own : State → State × Answer) :
    (s.serve l k p own).epoch = s.epoch ∨
      ∃ u : State, u.epoch = s.epoch ∧ (s.serve l k p own).epoch = (own u).1.epoch := by
  unfold State.serve State.take
  simp only
  split
  · split
    · exact .inl rfl
    · unfold State.judge
      split
      · exact .inl rfl
      · refine .inr ⟨(s.frameDone l).setLink l (((s.frameDone l).link l).begin (kindCode k)), rfl, ?_⟩
        split <;> rfl
  · exact .inl rfl

theorem exec_requestCommand_epoch (h : exec (requestCommand l k p) s = .next t) :
    t.epoch = s.epoch ∨ k ∈ basisKinds ∧ t.epoch = s.epoch + 1 := by
  rw [exec_requestCommand] at h
  cases h
  rcases s.serve_epoch l k p (ownBlock l p k) with hsame | ⟨u, hu, hserve⟩
  · exact .inl hsame
  · rw [hserve, ← hu]
    exact ownBlock_epoch l p k u

theorem exec_unknown_epoch {kind : Byte} (h : exec (.unknown l kind p) s = .next t) : t.epoch = s.epoch := by
  cases h
  unfold State.take
  simp only
  repeat' split
  all_goals rfl

theorem takeFrame_epoch {kind : Byte} (h : takeFrame l kind p s = .next t) : s.EpochStep t := by
  rw [takeFrame_eq] at h
  unfold commandOf at h
  split at h
  · exact (exec_requestCommand_epoch h).imp_right And.right
  · exact .inl (exec_unknown_epoch h)

/-- A character moves the epoch only where it ends a frame, which one with its stop bit low never does (R142 to R144). -/
theorem exec_characterReceived_epoch {ch : Byte} {stop : Bool} (h : exec (.characterReceived l ch stop) s = .next t) :
    t.epoch = s.epoch ∨ stop = true ∧ t.epoch = s.epoch + 1 := by
  change execCharacterReceived l ch stop s = .next t at h
  unfold execCharacterReceived deliver checkFrame at h
  split at h
  · cases h
    exact .inl rfl
  · split at h
    · rename_i hstop
      refine Or.imp_right (⟨hstop, ·⟩) (show s.EpochStep t from ?_)
      split at h
      · cases h
        split <;> exact .inl rfl
      · cases h
        exact .inl rfl
      · split at h
        · cases h
          exact .inl rfl
        · simp only at h
          split at h
          · exact takeFrame_epoch h
          · cases h
            exact .inl rfl
    · cases h
      exact .inl rfl

end Sys2Proof.Machine
end

/-! ## The epoch after an event (R96, R105, R114) -/

section
namespace Sys2Proof.Machine

variable {s t : State} {l : LinkId}

/-- Step 5 of an application moves the epoch by a commit alone (R83, R105). -/
theorem State.timerOrReport_epoch (k : SlotId) (verdict : Verdict) : s.EpochStep (s.timerOrReport k verdict) := by
  rcases s.line.cases with h | h | ⟨c, h⟩
  · refine .inl ?_
    simp only [State.timerOrReport, h]
  · rw [State.timerOrReport_timer h]
    exact .inl rfl
  · rw [State.timerOrReport_report h]
    split
    · exact .inr rfl
    · exact .inl rfl

theorem State.offer_epoch (v : Verification) (seq : List ClassRecord) : s.EpochStep (s.offer v seq).1 := by
  unfold State.offer
  split
  · have hstep := (s.recorded v seq).timerOrReport_epoch v.slot (summaryOf v seq).verdict
    rw [State.EpochStep, State.recorded_epoch] at hstep
    rwa [State.EpochStep, applyResult_epoch]
  · exact .inl rfl

theorem State.endComparison_epoch (v : Verification) (seq : List ClassRecord) :
    (s.endComparison l v seq).epoch = (s.offer v seq).1.epoch := by
  simp [State.endComparison, State.verificationEnded]

theorem exec_comparisonEnd_epoch (h : exec .comparisonEnd s = .next t) : s.EpochStep t := by
  change execComparisonEnd s = .next t at h
  unfold execComparisonEnd at h
  split at h
  · cases h
    exact .inl rfl
  · split at h
    · rename_i v _
      cases h
      rw [State.EpochStep, State.endComparison_epoch]
      exact State.offer_epoch v _
    all_goals
      cases h
      exact .inl State.startComparison_epoch

/-- Power-on clears the epoch (R114). -/
theorem exec_powerOn_epoch {n : Nat} {fails : List FormatNo} (h : exec (.powerOn n fails) s = .next t) :
    t.epoch = 0 := by
  change execPowerOn n fails s = .next t at h
  unfold execPowerOn at h
  simp only at h
  split at h
  · obtain rfl := Host.Outcome.next.inj h
    rfl
  all_goals
    obtain rfl := Host.Outcome.next.inj h
    exact State.startUpScan_epoch fails

theorem exec_pinResetRelease_epoch {fails : List FormatNo} (h : exec (.pinResetRelease fails) s = .next t) :
    t.epoch = s.epoch := by
  change execPinResetRelease fails s = .next t at h
  unfold execPinResetRelease at h
  split at h
  · obtain rfl := Host.Outcome.next.inj h
    exact State.startUpScan_epoch fails
  all_goals
    cases h
    rfl

theorem exec_scanEnd_epoch {a b : Bool} (h : exec (.scanEnd a b) s = .next t) : t.epoch = s.epoch := by
  change execScanEnd a b s = .next t at h
  unfold execScanEnd at h
  split at h
  · cases h
    exact State.endScan_epoch a b
  all_goals
    cases h
    rfl

theorem exec_linkBreak_epoch (h : exec (.linkBreak l) s = .next t) : t.epoch = s.epoch := by
  change execLinkBreak l s = .next t at h
  unfold execLinkBreak at h
  split at h
  · cases h
    rfl
  · cases h
    exact State.cancelManifest_epoch

theorem exec_frameGapTimeout_epoch (h : exec (.frameGapTimeout l) s = .next t) : t.epoch = s.epoch := by
  cases h
  split <;> rfl

theorem exec_presentationTimerExpiry_epoch {k : SlotId} (h : exec (.presentationTimerExpiry k) s = .next t) :
    t.epoch = s.epoch := by
  have degraded (verdict : Verdict) (timer : Option Nat) (f : Flag) (e : MonitorEvent) :
      (s.degrade k verdict timer f e).epoch = s.epoch := by simp [State.degrade]
  change execPresentationTimerExpiry k s = .next t at h
  unfold execPresentationTimerExpiry at h
  split at h
  all_goals cases h
  · exact degraded ..
  · exact degraded ..
  · exact degraded ..
  · rfl

theorem exec_settleTimerExpiry_epoch (h : exec .settleTimerExpiry s = .next t) : t.epoch = s.epoch := by
  by_cases hdue : ∃ c, s.line = .changeover c 0
  · obtain ⟨c, hline⟩ := hdue
    rw [exec_settleTimerExpiry_stalls hline] at h
    cases h
    rw [State.takeEvent_epoch, State.raise_epoch]
  · rw [exec_settleTimerExpiry_idle (not_exists.1 hdue)] at h
    cases h
    rfl

theorem exec_idleTimerExpiry_epoch (h : exec .idleTimerExpiry s = .next t) : t.epoch = s.epoch := by
  change execIdleTimerExpiry s = .next t at h
  unfold execIdleTimerExpiry at h
  split at h
  · cases h
    exact State.discard_epoch _
  · cases h
    rfl

theorem exec_sealCompletion_epoch {o : SealOutcome} (h : exec (.sealCompletion o) s = .next t) :
    t.epoch = s.epoch := by
  change execSealCompletion o s = .next t at h
  unfold execSealCompletion at h
  split at h
  · split at h
    all_goals
      cases h
      simp
  · cases h
    rfl

theorem exec_retireEraseCompletion_epoch {o : RetireOutcome} (h : exec (.retireEraseCompletion o) s = .next t) :
    t.epoch = s.epoch := by
  change execRetireEraseCompletion o s = .next t at h
  unfold execRetireEraseCompletion at h
  split at h
  · split at h
    all_goals
      cases h
      simp
  · cases h
    rfl

theorem exec_planWriteCompletion_epoch {o : PlanOutcome} (h : exec (.planWriteCompletion o) s = .next t) :
    t.epoch = s.epoch := by
  change execPlanWriteCompletion o s = .next t at h
  unfold execPlanWriteCompletion at h
  split at h
  · split at h
    all_goals
      cases h
      simp [State.endPlanWrite, State.takePlan]
  · cases h
    rfl

/-- Settles O44: requests move the epoch by the block that owns them, characters by the frame they end, and of the events
the end of a comparison alone moves it and a reset alone clears it. -/
theorem epochMovesWithTheBasis : Obligations.EpochMovesWithTheBasis := by
  unfold Obligations.EpochMovesWithTheBasis
  intro c s t h
  cases hreq : c.request? with
  | some request =>
    obtain ⟨l, k, p⟩ := request
    obtain rfl := request_eq_requestCommand hreq
    refine (exec_requestCommand_epoch h).imp_right fun ⟨hk, hnext⟩ => .inl ⟨hnext, .inr ⟨l, p, .inl ?_⟩⟩
    exact List.mem_map_of_mem (f := fun k => requestCommand l k p) hk
  | none =>
    cases c with
    | powerOn n fails => exact .inr (.inr ⟨exec_powerOn_epoch h, .inl ⟨n, fails, rfl⟩⟩)
    | pinReset n =>
      cases h
      exact .inr (.inr ⟨rfl, .inr ⟨n, rfl⟩⟩)
    | comparisonEnd => exact (exec_comparisonEnd_epoch h).imp_right fun hnext => .inl ⟨hnext, .inl rfl⟩
    | characterReceived l ch stop =>
      refine (exec_characterReceived_epoch h).imp_right fun ⟨hstop, hnext⟩ => .inl ⟨hnext, .inr ⟨l, [], .inr ⟨ch, ?_⟩⟩⟩
      rw [hstop]
    | pinResetRelease fails => exact .inl (exec_pinResetRelease_epoch h)
    | scanEnd a b => exact .inl (exec_scanEnd_epoch h)
    | linkBreak l => exact .inl (exec_linkBreak_epoch h)
    | frameGapTimeout l => exact .inl (exec_frameGapTimeout_epoch h)
    | unknown l kind p => exact .inl (exec_unknown_epoch h)
    | presentationTimerExpiry k => exact .inl (exec_presentationTimerExpiry_epoch h)
    | settleTimerExpiry => exact .inl (exec_settleTimerExpiry_epoch h)
    | idleTimerExpiry => exact .inl (exec_idleTimerExpiry_epoch h)
    | sealCompletion o => exact .inl (exec_sealCompletion_epoch h)
    | retireEraseCompletion o => exact .inl (exec_retireEraseCompletion_epoch h)
    | planWriteCompletion o => exact .inl (exec_planWriteCompletion_epoch h)
    | crcMismatch | transmitComplete | residencyTick | linkLineReturnsHigh | rateStrapChange =>
      cases h
      exact .inl rfl
    | _ => cases hreq

end Sys2Proof.Machine
end

/-! ## Requests that neither line phase nor freeze refuses, and the bytes they bring (R150, R151, R164) -/

section
namespace Sys2Proof.Machine

variable {s : State} {l : LinkId} {k : ReqKind} {p : List Byte} {b : Byte}

/-- The identification, the reads of plan and monitor, and the requests that write the monitor. -/
def monitorKinds : List ReqKind := [.ident, .planRead, .monitorRead, .monitorSet, .tripClear]

/-- For these the checks are those of length and role: every line phase admits them and no freeze refuses them. -/
theorem State.screen_monitor (hk : k ∈ monitorKinds) (hl : lengthOk k p = true) (hr : roleMay s.plan[l] k p = true) :
    s.screen l k p = none := by
  have hphase : ∀ k ∈ monitorKinds, phaseAdmits s.line s.plan[l] k = true := by simp [monitorKinds, phaseAdmits]
  have hfreeze : ∀ k ∈ monitorKinds, freezeRefuses k p = false := by simp [monitorKinds, freezeRefuses]
  exact State.screen_passes hl hr (hphase k hk) (.inr (hfreeze k hk))

/-- A payload is its bytes in order. -/
theorem eq_map_byteAt (p : List Byte) : p = (List.range p.length).map (byteAt p) := by
  refine List.ext_getElem (by simp) fun i hi _ => ?_
  simp [byteAt, hi]

/-- The four bytes of a field are written as they were read. -/
theorem bytes4_quad (p : List Byte) (i : Nat) :
    bytes4 (quad p i) = [byteAt p i, byteAt p (i + 1), byteAt p (i + 2), byteAt p (i + 3)] := by
  rw [bytes4, quad, BitVec.extractLsb'_append_eq_left, BitVec.extractLsb'_append_eq_right, bytes2_half, bytes2_half]
  rfl

/-- A field of four bytes is decided by its bytes. -/
theorem quad_congr {p q : List Byte} {i j : Nat} (h : ∀ d < 4, byteAt p (i + d) = byteAt q (j + d)) :
    quad p i = quad q j := by
  have hlow : half p i = half q j := half_congr (h 0 (by decide)) (h 1 (by decide))
  have hhigh : half p (i + 2) = half q (j + 2) := half_congr (h 2 (by decide)) (h 3 (by decide))
  rw [quad, hlow, hhigh, quad]

/-- A value that fits a narrower field is kept by it. -/
theorem toNat_setWidth_of_lt {v w : Nat} {x : BitVec w} (h : x.toNat < 2 ^ v) : (x.setWidth v).toNat = x.toNat := by
  rw [BitVec.toNat_setWidth, Nat.mod_eq_of_lt h]

/-- A value that fits a narrower field is written from it as it was. -/
theorem setWidth_setWidth_of_lt {v w : Nat} {x : BitVec w} (h : x.toNat < 2 ^ v) : (x.setWidth v).setWidth w = x := by
  refine BitVec.eq_of_toNat_eq ?_
  rw [BitVec.toNat_setWidth, toNat_setWidth_of_lt h, Nat.mod_eq_of_lt x.isLt]

/-! What a byte names in the requests of the monitor. -/

theorem counterOf_of_val {i : CounterNo} (h : b.toNat = i.val) : counterOf b = some i := by
  simp [counterOf, h]

theorem counterOf_of_gt (h : 3 < b.toNat) : counterOf b = none := dif_neg (by omega)

theorem boolOf_of_gt (h : 1 < b.toNat) : boolOf b = none := by
  rw [boolOf, if_neg (byte_ne_of_gt_one h).1, if_neg (byte_ne_of_gt_one h).2]

/-- A byte up to 1 names a truth value, which is written as that byte. -/
theorem boolOf_of_le (h : b.toNat ≤ 1) : ∃ x, boolOf b = some x ∧ (x = true ↔ b = 1) ∧ bool1 x = [b] := by
  rcases byte_eq_of_le_one h with rfl | rfl
  · exact ⟨false, rfl, by decide, rfl⟩
  · exact ⟨true, rfl, by decide, rfl⟩

theorem actionOf_eq_some {a : Action} : actionOf b = some a ↔ b = a.code := by
  constructor
  · intro h
    unfold actionOf at h
    split_ifs at h
    all_goals
      cases h
      assumption
  · rintro rfl
    cases a <;> rfl

theorem actionOf_of_gt (h : 2 < b.toNat) : actionOf b = none := by
  refine Option.eq_none_iff_forall_ne_some.2 fun a ha => ?_
  rw [actionOf_eq_some.1 ha] at h
  cases a <;> exact absurd h (by decide)

theorem actionOf_of_le (h : b.toNat ≤ 2) : ∃ a, actionOf b = some a ∧ a.code = b := by
  have hcode : (b = 0 ∨ b = 1) ∨ b = 2 :=
    (Nat.le_or_eq_of_le_succ h).imp byte_eq_of_le_one fun h => BitVec.eq_of_toNat_eq h
  rcases hcode with (rfl | rfl) | rfl
  exacts [⟨.note, rfl, rfl⟩, ⟨.freeze, rfl, rfl⟩, ⟨.drop, rfl, rfl⟩]

end Sys2Proof.Machine
end

/-! ## An event is counted (R128 to R135) -/

section
namespace Sys2Proof.Machine

/-- Settles O33: what an event leaves is known of every event, and its permits follow verdicts and line phase, which it
keeps. -/
theorem eventsAreCounted : Obligations.EventsAreCounted := by
  unfold Obligations.EventsAreCounted
  refine fun s e => ⟨takeEvent_counted s e, fun k => ?_⟩
  obtain ⟨hverdict, -⟩ := takeEvent_sameCustody s e k
  obtain ⟨-, hpermit⟩ := takeEvent_permitsFollow s e k
  rwa [hverdict, State.takeEvent_line] at hpermit

end Sys2Proof.Machine
end

/-! ## RESIDENCY_TICK (R140) -/

section
namespace Sys2Proof.Machine

/-- The residency counter of each line phase. -/
theorem Line.residencyIndex_eq_iff (line : Line) (i : Fin 5) : line.residencyIndex = i ↔
    (line = .noFormat ∧ i = 0) ∨ (line = .run ∧ i = 1) ∨ ((∃ c m, line = .changeover c m) ∧ i = 2) ∨
      ((∃ c, line = .stalled c) ∧ i = 3) ∨ ((∃ kept ret g, line = .service kept ret g) ∧ i = 4) := by
  cases line <;> simp [Line.residencyIndex, eq_comm]

/-- The state after a residency tick. -/
def State.ticked (s : State) : State :=
  { s with residency := s.residency.set s.line.residencyIndex (residencyTick s.residency[s.line.residencyIndex]) }

theorem exec_residencyTick (s : State) : exec .residencyTick s = .next s.ticked := rfl

theorem ticked_residency_same {s : State} {i : Fin 5} (h : s.line.residencyIndex = i) :
    s.ticked.residency[i] = if s.residency[i] = 4294967295 then 4294967295 else s.residency[i] + 1 := by
  subst h
  simp only [State.ticked, Fin.getElem_fin, Vector.getElem_set_self, residencyTick]
  split
  · assumption
  · rfl

theorem ticked_residency_of_ne {s : State} {i : Fin 5} (h : s.line.residencyIndex ≠ i) :
    s.ticked.residency[i] = s.residency[i] := by
  simp only [State.ticked, Fin.getElem_fin]
  exact Vector.getElem_set_ne _ _ (Fin.val_ne_of_ne h)

/-- Settles O35: the one counter written is that of the line phase found. -/
theorem residencyTickCountsThePhase : Obligations.ResidencyTickCountsThePhase := by
  unfold Obligations.ResidencyTickCountsThePhase
  refine fun s => ⟨s.ticked, exec_residencyTick s, rfl, fun i => ⟨fun h => ?_, fun h0 h1 h2 h3 h4 => ?_⟩⟩
  · exact ticked_residency_same ((Line.residencyIndex_eq_iff _ i).2 h)
  · refine ticked_residency_of_ne fun h => ?_
    rcases (Line.residencyIndex_eq_iff _ i).1 h with h | h | h | h | h
    · exact h0 h.1 h.2
    · exact h1 h.1 h.2
    · exact h2 h.1 h.2
    · exact h3 h.1 h.2
    · exact h4 h.1 h.2

end Sys2Proof.Machine
end

/-! ## MONITOR-SET and TRIP-CLEAR (R137, R138) -/

section
namespace Sys2Proof.Machine

variable {s : State} {l : LinkId} {k : ReqKind} {i : CounterNo} {p payload : List Byte} {own : State → State × Answer}
  {r : Result}

/-- An owning block that writes the counters and the slot trackers and answers leaves that and the answer. -/
theorem State.serve_setsCounters (h : s.Attends l) (hs : s.screen l k p = none) {C : Vector Counter 4} {X : Vector Slot 6}
    (ho : own (s.serving l (kindCode k)) =
      ({ s.serving l (kindCode k) with counters := C, slots := X }, .reply r payload)) :
    s.serve l k p own = { s.answered l (kindCode k) r payload with counters := C, slots := X } := by
  rw [State.serve_replies h hs ho, ← State.respond_serving]
  rfl

/-- The two requests pass for ENGINEERING. -/
theorem State.screen_monitorWrite (hk : k ∈ [.monitorSet, .tripClear]) (h : s.Hears l .engineering)
    (hl : lengthOk k p = true) : s.screen l k p = none := by
  have hkind : ∀ k ∈ [ReqKind.monitorSet, .tripClear], k ∈ monitorKinds := by decide
  have hrole : ∀ k ∈ [ReqKind.monitorSet, .tripClear], roleMay .engineering k p = true := by simp [roleMay]
  exact State.screen_monitor (hkind k hk) hl (h.2 ▸ hrole k hk)

/-! The settings and the value sent (R137 check 3, section 11.7). -/

/-- A value or a member that does not exist. -/
theorem settingsOf_none (h : 1 < (byteAt p 1).toNat ∨ 4095 < (half p 2).toNat ∨ 127 < (byteAt p 4).toNat ∨
    1 < (byteAt p 6).toNat ∨ 1 < (byteAt p 7).toNat ∨ 2 < (byteAt p 8).toNat ∨ 16777215 < (quad p 9).toNat) :
    settingsOf p = none := by
  refine Option.eq_none_iff_forall_ne_some.2 fun c hc => ?_
  simp only [settingsOf, Option.bind_eq_bind, Option.bind_eq_some_iff] at hc
  obtain ⟨_, henable, _, hinvert, _, hedge, _, haction, hc⟩ := hc
  have hfits : (half p 2).toNat < 2 ^ 12 ∧ (byteAt p 4).toNat < 2 ^ 7 ∧ (quad p 9).toNat < 2 ^ 24 := by
    by_contra hn
    rw [if_neg hn] at hc
    cases hc
  obtain ⟨hevents, hfilter, hvalue⟩ := hfits
  rcases h with h | h | h | h | h | h | h
  · rw [boolOf_of_gt h] at henable
    cases henable
  · omega
  · omega
  · rw [boolOf_of_gt h] at hinvert
    cases hinvert
  · rw [boolOf_of_gt h] at hedge
    cases hedge
  · rw [actionOf_of_gt h] at haction
    cases haction
  · omega

/-- A counter as a payload sets it: all seven settings and the value are those sent, the flag is clear. -/
structure SetBy (p : List Byte) (c : Counter) : Prop where
  flag : c.flag = false
  value : c.value.toNat = (quad p 9).toNat
  enable : c.enable = true ↔ byteAt p 1 = 1
  events : c.events.toNat = (half p 2).toNat
  filter : c.filter.toNat = (byteAt p 4).toNat
  threshold : c.threshold = byteAt p 5
  invert : c.invert = true ↔ byteAt p 6 = 1
  edge : c.edge = true ↔ byteAt p 7 = 1
  action : c.action.code = byteAt p 8
  /-- The settings and the value are written as they were sent. -/
  bytes : c.settingBytes ++ c.valueBytes = [byteAt p 1, byteAt p 2, byteAt p 3, byteAt p 4, byteAt p 5, byteAt p 6,
    byteAt p 7, byteAt p 8, byteAt p 9, byteAt p 10, byteAt p 11, byteAt p 12]

theorem settingsOf_some (h1 : (byteAt p 1).toNat ≤ 1) (h2 : (half p 2).toNat ≤ 4095) (h4 : (byteAt p 4).toNat ≤ 127)
    (h6 : (byteAt p 6).toNat ≤ 1) (h7 : (byteAt p 7).toNat ≤ 1) (h8 : (byteAt p 8).toNat ≤ 2)
    (h9 : (quad p 9).toNat ≤ 16777215) : ∃ c, settingsOf p = some c ∧ SetBy p c := by
  obtain ⟨enable, henable, enable_iff, enable_byte⟩ := boolOf_of_le h1
  obtain ⟨invert, hinvert, invert_iff, invert_byte⟩ := boolOf_of_le h6
  obtain ⟨edge, hedge, edge_iff, edge_byte⟩ := boolOf_of_le h7
  obtain ⟨action, haction, action_code⟩ := actionOf_of_le h8
  have hevents : (half p 2).toNat < 2 ^ 12 := Nat.lt_succ_of_le h2
  have hfilter : (byteAt p 4).toNat < 2 ^ 7 := Nat.lt_succ_of_le h4
  have hvalue : (quad p 9).toNat < 2 ^ 24 := Nat.lt_succ_of_le h9
  refine ⟨{ value := (quad p 9).setWidth 24, flag := false, enable := enable, events := (half p 2).setWidth 12,
            filter := (byteAt p 4).setWidth 7, threshold := byteAt p 5, invert := invert, edge := edge,
            action := action }, ?_, ?_⟩
  · simp only [settingsOf, henable, hinvert, hedge, haction, Option.bind_eq_bind, Option.bind_some]
    exact if_pos ⟨hevents, hfilter, hvalue⟩
  · refine ⟨rfl, ?_, enable_iff, ?_, ?_, rfl, invert_iff, edge_iff, action_code, ?_⟩
    · exact toNat_setWidth_of_lt hvalue
    · exact toNat_setWidth_of_lt hevents
    · exact toNat_setWidth_of_lt hfilter
    · simp only [Counter.settingBytes, Counter.valueBytes, set1, set2, setWidth_setWidth_of_lt hevents,
        setWidth_setWidth_of_lt hfilter, setWidth_setWidth_of_lt hvalue, enable_byte, invert_byte, edge_byte, action_code,
        bytes2_half, bytes4_quad]
      rfl

/-! The checks in the order of R137. -/

theorem ownMonitorSet_range (h : 3 < (byteAt p 0).toNat) : ownMonitorSet p s = (s, .reply .range []) := by
  simp only [ownMonitorSet, counterOf_of_gt h]

theorem ownMonitorSet_state (hi : (byteAt p 0).toNat = i.val) (hf : s.counters[i].flag = true) :
    ownMonitorSet p s = (s, .reply .state []) := by
  simp only [ownMonitorSet, counterOf_of_val hi]
  exact if_pos hf

theorem ownMonitorSet_undefined (hi : (byteAt p 0).toNat = i.val) (hf : s.counters[i].flag = false)
    (h : settingsOf p = none) : ownMonitorSet p s = (s, .reply .range []) := by
  simp only [ownMonitorSet, counterOf_of_val hi, h]
  exact if_neg (Bool.eq_false_iff.1 hf)

/-- Settings that pass are in force, and the answer is the payload with the freeze. -/
theorem ownMonitorSet_sets (hlen : p.length = 13) (hi : (byteAt p 0).toNat = i.val) (hf : s.counters[i].flag = false)
    {c : Counter} (h : settingsOf p = some c) (hc : SetBy p c) : ownMonitorSet p s =
      ({ s with counters := s.counters.set i c }, .reply .done (p ++ [if s.frozen then 1 else 0])) := by
  have hbytes : p = num1 i.val ++ c.settingBytes ++ c.valueBytes := by
    have hp := eq_map_byteAt p
    rw [hlen] at hp
    rw [List.append_assoc, hc.bytes, num1_of_val hi]
    exact hp
  have hanswer : p ++ [if s.frozen then 1 else 0] = num1 i.val ++ c.settingBytes ++ c.valueBytes ++ bool1 s.frozen :=
    congrArg (· ++ bool1 s.frozen) hbytes
  rw [hanswer]
  simp only [ownMonitorSet, counterOf_of_val hi, h]
  exact if_neg (Bool.eq_false_iff.1 hf)

/-! TRIP-CLEAR. -/

/-- The part after the flag of a counter is cleared and its value loaded: holds and permits are derived anew (R138). -/
def State.tripCleared (i : CounterNo) (value : BitVec 24) (s : State) : State :=
  ({ s with counters := s.counters.set i { s.counters[i] with flag := false, value := value } } : State).evalPermits

theorem tripCleared_permitsFollow (s : State) (i : CounterNo) (value : BitVec 24) :
    (s.tripCleared i value).PermitsFollow := State.evalPermits_permitsFollow _

theorem tripCleared_sameCustody (s : State) (i : CounterNo) (value : BitVec 24) :
    s.SameCustody (s.tripCleared i value) := fun k => by
  obtain ⟨hverdict, htimer, hmemory, hsummary⟩ := evalPermits_sameCustody { s with
    counters := s.counters.set i { s.counters[i] with flag := false, value := value } } k
  exact ⟨hverdict, htimer, hmemory, hsummary⟩

theorem ownTripClear_range (h : 3 < (byteAt p 0).toNat ∨ 16777215 < (quad p 1).toNat) :
    ownTripClear p s = (s, .reply .range []) := by
  unfold ownTripClear
  split
  · rfl
  · rename_i i hi
    refine if_neg fun hvalue => ?_
    rcases h with h | h
    · rw [counterOf_of_gt h] at hi
      cases hi
    · omega

theorem ownTripClear_clears (hlen : p.length = 5) (hi : (byteAt p 0).toNat = i.val) (h : (quad p 1).toNat ≤ 16777215) :
    ownTripClear p s = (s.tripCleared i ((quad p 1).setWidth 24),
      .reply .done (p.drop 1 ++ [0, if (s.tripCleared i ((quad p 1).setWidth 24)).frozen then 1 else 0])) := by
  have hvalue : (quad p 1).toNat < 2 ^ 24 := Nat.lt_succ_of_le h
  have hbytes : bytes4 (((quad p 1).setWidth 24).setWidth 32) = p.drop 1 := by
    have hp := congrArg (List.drop 1) (eq_map_byteAt p)
    rw [hlen] at hp
    rw [setWidth_setWidth_of_lt hvalue, bytes4_quad]
    exact hp.symm
  rw [← hbytes]
  simp only [ownTripClear, counterOf_of_val hi]
  exact if_pos hvalue

theorem exec_tripClear (hears : s.Hears l .engineering) (hlen : p.length = 5) (hi : (byteAt p 0).toNat = i.val)
    (h : (quad p 1).toNat ≤ 16777215) {u : State} (hu : s.tripCleared i ((quad p 1).setWidth 24) = u) :
    exec (.tripClear l p) s = .next { s.answered l 0x42 .done (p.drop 1 ++ [0, if u.frozen then 1 else 0]) with
      counters := u.counters, slots := u.slots } := by
  subst hu
  have hpass : s.screen l .tripClear p = none := State.screen_monitorWrite (by decide) hears (by simp [lengthOk, hlen])
  exact congrArg _ (State.serve_setsCounters hears.1 hpass (ownTripClear_clears (s := s.serving l 0x42) hlen hi h))

/-- Settles O34: each request's outcome is decided by its checks in order. -/
theorem monitorSetAndTripClear : Obligations.MonitorSetAndTripClear := by
  unfold Obligations.MonitorSetAndTripClear
  refine ⟨fun s l p hears hlen => ?_, fun s l p hears hlen => ⟨fun h => ?_, fun i hi h => ?_⟩⟩
  · have hpass : s.screen l .monitorSet p = none :=
      State.screen_monitorWrite (by decide) hears (by simp [lengthOk, hlen])
    refine ⟨fun h => ?_, fun i hi => ⟨fun hf => ?_, fun hf h => ?_, fun hf h1 h2 h4 h6 h7 h8 h9 => ?_⟩⟩
    · exact congrArg _ (State.serve_answers hears.1 hpass (ownMonitorSet_range h))
    · exact congrArg _ (State.serve_answers hears.1 hpass (ownMonitorSet_state (s := s.serving l 0x40) hi hf))
    · exact congrArg _ (State.serve_answers hears.1 hpass
        (ownMonitorSet_undefined (s := s.serving l 0x40) hi hf (settingsOf_none h)))
    · obtain ⟨c, hset, hc⟩ := settingsOf_some h1 h2 h4 h6 h7 h8 h9
      exact ⟨c, congrArg _ (State.serve_setsCounters hears.1 hpass
          (ownMonitorSet_sets (s := s.serving l 0x40) hlen hi hf hset hc)),
        hc.flag, hc.value, hc.enable, hc.events, hc.filter, hc.threshold, hc.invert, hc.edge, hc.action⟩
  · have hpass : s.screen l .tripClear p = none :=
      State.screen_monitorWrite (by decide) hears (by simp [lengthOk, hlen])
    exact congrArg _ (State.serve_answers hears.1 hpass (ownTripClear_range h))
  · have hvalue : (quad p 1).toNat < 2 ^ 24 := Nat.lt_succ_of_le h
    exact ⟨_, exec_tripClear hears hlen hi h rfl, rfl, ⟨_, toNat_setWidth_of_lt hvalue, rfl⟩,
      tripCleared_sameCustody s i _, (tripCleared_permitsFollow s i _).congr rfl rfl rfl⟩

end Sys2Proof.Machine
end

/-! ## IDENT, PLAN-READ and MONITOR-READ (R139, R154, R155) -/

section
namespace Sys2Proof.Machine

variable {s : State} {l : LinkId} {j : Nat}

/-- The reads of plan and monitor pass for ENGINEERING and SUPERVISOR. -/
theorem State.screen_planOrMonitorRead {k : ReqKind} (hk : k ∈ [.planRead, .monitorRead])
    (h : s.plan[l] = .engineering ∨ s.plan[l] = .supervisor) : s.screen l k [] = none := by
  have hkind : ∀ k ∈ [ReqKind.planRead, .monitorRead], k ∈ monitorKinds ∧ lengthOk k [] = true := by decide
  have hrole : ∀ k ∈ [ReqKind.planRead, .monitorRead], roleMay s.plan[l] k [] = true := by
    rcases h with h | h <;> rw [h] <;> simp [roleMay]
  exact State.screen_monitor (hkind k hk).1 (hkind k hk).2 (hrole k hk)

theorem exec_ident (h : s.Attends l) : exec (.ident l []) s = .next (s.answered l 0x01 .done (identBytes l s.plan[l])) :=
  congrArg _ (State.serve_answers h (State.screen_monitor (by decide) rfl rfl) rfl)

theorem exec_planRead (h : s.Attends l) (hrole : s.plan[l] = .engineering ∨ s.plan[l] = .supervisor) :
    exec (.planRead l []) s = .next (s.answered l 0x3A .done (Plan.bytes s.plan ++ bool1 s.planPending)) :=
  congrArg _ (State.serve_answers h (State.screen_planOrMonitorRead (by decide) hrole) rfl)

theorem exec_monitorRead (h : s.Attends l) (hrole : s.plan[l] = .engineering ∨ s.plan[l] = .supervisor) :
    exec (.monitorRead l []) s = .next (s.answered l 0x41 .done s.monitorBytes) :=
  congrArg _ (State.serve_answers h (State.screen_planOrMonitorRead (by decide) hrole) rfl)

@[simp] theorem bool1_length (x : Bool) : (bool1 x).length = 1 := rfl

/-- Records of one size, counted. -/
theorem length_flatMap_of_length {α : Type} {g : α → List Byte} {n : Nat} (hg : ∀ x, (g x).length = n) (xs : List α) :
    (xs.flatMap g).length = xs.length * n := by
  simp [List.length_flatMap, hg]

/-! The line plan (section 11.7). -/

@[simp] theorem Plan.bytes_length (plan : Plan) : (Plan.bytes plan).length = 16 := by
  rw [Plan.bytes, length_flatMap_of_length (n := 2) fun _ => rfl, Vector.length_toList]

/-- The two bytes of a link. -/
theorem byteAt_planBytes (plan : Plan) (m : LinkId) (hj : j < 2) :
    byteAt (Plan.bytes plan) (2 * m.val + j) = byteAt [plan[m].code, plan[m].slotCode] j := by
  rw [Plan.bytes, byteAt_flatMap_of_length (n := 2) (fun _ => rfl) hj _ _ (by simp), Vector.getElem_toList]
  rfl

/-- The answer to PLAN-READ: every link's role and slot, and the marker. -/
theorem planRead_layout (plan : Plan) (pending : Bool) : (Plan.bytes plan ++ bool1 pending).length = 17 ∧
    (∀ m : LinkId, byteAt (Plan.bytes plan ++ bool1 pending) (2 * m.val) = plan[m].code ∧
      byteAt (Plan.bytes plan ++ bool1 pending) (2 * m.val + 1) = plan[m].slotCode) ∧
    (byteAt (Plan.bytes plan ++ bool1 pending) 16 = 1 ↔ pending = true) := by
  refine ⟨by simp, fun m => ?_, ?_⟩
  · have hm := m.isLt
    rw [byteAt_append_left (by rw [Plan.bytes_length]; omega), byteAt_append_left (by rw [Plan.bytes_length]; omega)]
    exact ⟨byteAt_planBytes plan m (by decide : 0 < 2), byteAt_planBytes plan m (by decide : 1 < 2)⟩
  · rw [byteAt_append_right (by simp), Plan.bytes_length]
    exact bool1_eq_one pending

/-! The monitor's response: four records of 13 bytes, freeze, holds and residency (section 11.7). -/

/-- One counter in the response: value, flag and settings. -/
def Counter.monitorRecord (c : Counter) : List Byte := c.valueBytes ++ bool1 c.flag ++ c.settingBytes

theorem monitorRecord_length (c : Counter) : c.monitorRecord.length = 13 := rfl

/-- The four records. -/
def State.counterRecords (s : State) : List Byte := s.counters.toList.flatMap Counter.monitorRecord

/-- Freeze, holds and residency: what follows the records. -/
def State.monitorTail (s : State) : List Byte :=
  bool1 s.frozen ++ (set1 (slotsWhere s.held) ++ s.residency.toList.flatMap bytes4)

theorem monitorBytes_eq (s : State) : s.monitorBytes = s.counterRecords ++ s.monitorTail := by
  simp only [State.monitorTail, ← List.append_assoc]
  rfl

@[simp] theorem counterRecords_length (s : State) : s.counterRecords.length = 52 := by
  rw [State.counterRecords, length_flatMap_of_length monitorRecord_length, Vector.length_toList]

@[simp] theorem monitorTail_length (s : State) : s.monitorTail.length = 22 := by
  simp [State.monitorTail, length_flatMap_of_length bytes4_length]

theorem monitorBytes_length (s : State) : s.monitorBytes.length = 74 := by
  rw [monitorBytes_eq, List.length_append, counterRecords_length, monitorTail_length]

theorem byteAt_monitorBytes_record (s : State) (i : CounterNo) (hj : j < 13) :
    byteAt s.monitorBytes (13 * i.val + j) = byteAt s.counters[i].monitorRecord j := by
  have hi := i.isLt
  rw [monitorBytes_eq, byteAt_append_left (by rw [counterRecords_length]; omega), State.counterRecords,
    byteAt_flatMap_of_length monitorRecord_length hj _ _ (by simp), Vector.getElem_toList]
  rfl

theorem byteAt_monitorBytes_tail (s : State) (j : Nat) : byteAt s.monitorBytes (52 + j) = byteAt s.monitorTail j := by
  rw [monitorBytes_eq, byteAt_append_right (by simp), counterRecords_length, Nat.add_sub_cancel_left]

/-- The numbers of a record: each is at least as wide in the response as in the counter. -/
theorem monitorRecord_numbers (c : Counter) : (quad c.monitorRecord 0).toNat = c.value.toNat ∧
    (half c.monitorRecord 6).toNat = c.events.toNat ∧ (byteAt c.monitorRecord 8).toNat = c.filter.toNat := by
  have hvalue : quad c.monitorRecord 0 = c.value.setWidth 32 := quad_bytes4 _
  have hevents : half c.monitorRecord 6 = c.events.setWidth 16 := half_bytes2 _
  have hfilter : byteAt c.monitorRecord 8 = c.filter.setWidth 8 := rfl
  rw [hvalue, hevents, hfilter]
  exact ⟨BitVec.toNat_setWidth_of_le (by decide), BitVec.toNat_setWidth_of_le (by decide),
    BitVec.toNat_setWidth_of_le (by decide)⟩

theorem monitorBytes_counter (s : State) (i : CounterNo) :
    (quad s.monitorBytes (13 * i.val)).toNat = s.counters[i].value.toNat ∧
    (byteAt s.monitorBytes (13 * i.val + 4) = 1 ↔ s.counters[i].flag = true) ∧
    (byteAt s.monitorBytes (13 * i.val + 5) = 1 ↔ s.counters[i].enable = true) ∧
    (half s.monitorBytes (13 * i.val + 6)).toNat = s.counters[i].events.toNat ∧
    (byteAt s.monitorBytes (13 * i.val + 8)).toNat = s.counters[i].filter.toNat ∧
    byteAt s.monitorBytes (13 * i.val + 9) = s.counters[i].threshold ∧
    (byteAt s.monitorBytes (13 * i.val + 10) = 1 ↔ s.counters[i].invert = true) ∧
    (byteAt s.monitorBytes (13 * i.val + 11) = 1 ↔ s.counters[i].edge = true) ∧
    byteAt s.monitorBytes (13 * i.val + 12) = s.counters[i].action.code := by
  have hbyte (j : Nat) (hj : j < 13) := byteAt_monitorBytes_record s i hj
  have hquad : quad s.monitorBytes (13 * i.val) = quad s.counters[i].monitorRecord 0 :=
    quad_congr fun d hd => by rw [hbyte d (by omega), Nat.zero_add]
  have hhalf : half s.monitorBytes (13 * i.val + 6) = half s.counters[i].monitorRecord 6 :=
    half_congr (hbyte 6 (by decide)) (hbyte 7 (by decide))
  obtain ⟨hvalue, hevents, hfilter⟩ := monitorRecord_numbers s.counters[i]
  rw [hquad, hhalf, hbyte 4 (by decide), hbyte 5 (by decide), hbyte 8 (by decide), hbyte 9 (by decide),
    hbyte 10 (by decide), hbyte 11 (by decide), hbyte 12 (by decide)]
  exact ⟨hvalue, bool1_eq_one _, bool1_eq_one _, hevents, hfilter, rfl, bool1_eq_one _, bool1_eq_one _, rfl⟩

theorem monitorBytes_frozen (s : State) : byteAt s.monitorBytes 52 = 1 ↔ s.frozen = true := by
  rw [byteAt_monitorBytes_tail s 0]
  exact bool1_eq_one _

theorem monitorBytes_held (s : State) (k : SlotId) : (byteAt s.monitorBytes 53).getLsbD k.val = s.held k := by
  have hbyte : byteAt s.monitorBytes 53 = (slotsWhere s.held).setWidth 8 := byteAt_monitorBytes_tail s 1
  have hk : k.val < 8 := by omega
  rw [hbyte, BitVec.getLsbD_setWidth, slotsWhere_getLsbD, decide_eq_true hk, Bool.true_and]

theorem byteAt_monitorTail_residency (s : State) (j : Nat) :
    byteAt s.monitorTail (2 + j) = byteAt (s.residency.toList.flatMap bytes4) j := by
  rw [State.monitorTail, ← List.append_assoc, byteAt_append_right (by simp)]
  simp

theorem monitorBytes_residency (s : State) (i : Fin 5) : quad s.monitorBytes (54 + 4 * i.val) = s.residency[i] := by
  have hbyte : ∀ d < 4, byteAt s.monitorBytes (54 + 4 * i.val + d) = byteAt (bytes4 s.residency[i]) (0 + d) := by
    intro d hd
    rw [show 54 + 4 * i.val + d = 52 + (2 + (4 * i.val + d)) by omega, byteAt_monitorBytes_tail,
      byteAt_monitorTail_residency, byteAt_flatMap_of_length bytes4_length hd _ _ (by simp), Vector.getElem_toList,
      Nat.zero_add]
    rfl
  exact (quad_congr hbyte).trans (quad_bytes4 _)

/-- Settles O17: the checks pass whatever phase and freeze, and each answer is read part by part. -/
theorem identPlanReadMonitorReadAnswer : Obligations.IdentPlanReadMonitorReadAnswer := by
  unfold Obligations.IdentPlanReadMonitorReadAnswer
  refine fun s l attends => ⟨exec_ident attends, fun hrole =>
    ⟨Plan.bytes s.plan ++ bool1 s.planPending, s.monitorBytes, ?_⟩⟩
  obtain ⟨hlen, hroles, hpending⟩ := planRead_layout s.plan s.planPending
  exact ⟨exec_planRead attends hrole, hlen, hroles, hpending, exec_monitorRead attends hrole, monitorBytes_length s,
    monitorBytes_counter s, monitorBytes_frozen s, monitorBytes_held s, monitorBytes_residency s⟩

end Sys2Proof.Machine
end

/-! ## A step and the front of the queue (R144) -/

section
namespace Sys2Proof.Machine

/-- Settles O1: a queue that is not empty leaves the step one branch. -/
theorem stepRunsTheFrontCommand : Obligations.StepRunsTheFrontCommand := by
  unfold Obligations.StepRunsTheFrontCommand
  intro c rest s h
  simp only [step, h]

end Sys2Proof.Machine
end

/-! ## What leaves the queue of commands and the link interfaces alone

No owning block writes either: the response stands outside the block (R146). -/

section
namespace Sys2Proof.Machine

variable {s : State} {l : LinkId}

/-- The queue of commands and the link interfaces. -/
def State.intake (s : State) : List Instr × Vector Link 8 := (s.pending, s.links)

theorem State.intake_eq_iff {s t : State} : t.intake = s.intake ↔ t.pending = s.pending ∧ t.links = s.links := by
  simp [State.intake]

/-! The enrollment unit and the engine's claims. -/

theorem State.emptyFormat_intake (f : FormatNo) : (s.emptyFormat f).intake = s.intake := by
  simp [State.intake, State.emptyFormat]

theorem State.readRestarts_intake (f : FormatNo) : (s.readRestarts l f).intake = s.intake := by
  rw [readRestarts_eq]
  rfl

theorem State.discard_intake (c : EnrollContext) : (s.discard c).intake = s.intake :=
  State.emptyFormat_intake (s := s) c.format

theorem State.openFormat_intake (f : FormatNo) (kind : FormatKind) : (s.openFormat l f kind).intake = s.intake := by
  simp [State.intake, State.openFormat]

theorem State.addEntry_intake (c : EnrollContext) (k : SlotId) (e : RefEntry) :
    (s.addEntry c k e).intake = s.intake := by
  simp [State.intake, State.addEntry]

theorem State.dropEntry_intake (c : EnrollContext) (k : SlotId) (id : Word16) :
    (s.dropEntry c k id).intake = s.intake := by
  simp [State.intake, State.dropEntry]

theorem State.setFields_intake (c : EnrollContext) (tag : List Byte) (settle interval : Nat) :
    (s.setFields c tag settle interval).intake = s.intake := by
  simp [State.intake, State.setFields]

theorem State.beginSeal_intake (c : EnrollContext) : (s.beginSeal l c).intake = s.intake := by
  simp [State.intake, State.beginSeal]

theorem State.beginRetire_intake (f : FormatNo) : (s.beginRetire l f).intake = s.intake :=
  State.emptyFormat_intake (s := s) f

/-! The assembler, the comparator and the line. -/

@[simp] theorem State.setBuffer_intake (b : Buffer) : (s.setBuffer l b).intake = s.intake := rfl

@[simp] theorem State.startComparison_intake : s.startComparison.intake = s.intake := by
  rw [State.startComparison_eq]
  split <;> rfl

theorem State.queueVerification_intake (v : Verification) : (s.queueVerification l v).intake = s.intake := by
  simp only [State.queueVerification, State.startComparison_intake]
  rfl

theorem State.cancelManifest_intake : (s.cancelManifest l).intake = s.intake := by
  rw [State.cancelManifest_frame]
  rfl

theorem State.abandon_intake (c : Changeover) : (s.abandon c).intake = s.intake := by
  simp only [State.intake, State.abandon, State.takeEvent_pending, State.takeEvent_links, State.raise_pending,
    State.raise_links]
  rw [afterAbandon_frame]

theorem State.degrade_intake (k : SlotId) (verdict : Verdict) (timer : Option Nat) (f : Flag) (e : MonitorEvent) :
    (s.degrade k verdict timer f e).intake = s.intake := by
  simp [State.intake, State.degrade]

theorem State.offer_intake (v : Verification) (seq : List ClassRecord) : (s.offer v seq).1.intake = s.intake := by
  unfold State.offer
  split
  · simp [State.intake]
  · rfl

/-! The program engine, the scan and the resets. -/

@[simp] theorem State.setArea_intake (f : FormatNo) (a : FormatArea) : (s.setArea f a).intake = s.intake := by
  simp [State.intake]

@[simp] theorem State.raise_intake (f : Flag) : (s.raise f).intake = s.intake := rfl

@[simp] theorem State.raiseIf_intake (c : Bool) (f : Flag) : (s.raiseIf c f).intake = s.intake := by
  simp [State.intake]

@[simp] theorem State.setPlanArea_intake (i : PlanAreaId) (a : PlanArea) : (s.setPlanArea i a).intake = s.intake := by
  cases i <;> rfl

theorem State.stopEngine_intake (n : Nat) : (s.stopEngine n).intake = s.intake := by
  rw [State.stopEngine_frame]
  rfl

@[simp] theorem State.sealSteps_intake (f : FormatNo) (n : Nat) : (s.sealSteps f n).intake = s.intake := by
  unfold State.sealSteps
  split
  · rfl
  · exact State.setArea_intake ..
  · exact State.setArea_intake ..
  · exact State.setArea_intake ..
  · exact State.setArea_intake f (.sealed (s.recordToSeal f))

@[simp] theorem State.retireSteps_intake (f : FormatNo) (n : Nat) : (s.retireSteps f n).intake = s.intake := by
  unfold State.retireSteps
  split
  · rfl
  · exact State.setArea_intake ..
  · exact State.setArea_intake ..

@[simp] theorem State.planSteps_intake (plan : Plan) (n : Nat) : (s.planSteps plan n).intake = s.intake := by
  unfold State.planSteps
  split <;> simp

@[simp] theorem State.finishSeal_intake (f : FormatNo) : (s.finishSeal f).intake = s.intake := by
  simp [State.intake, State.finishSeal]

@[simp] theorem State.failSeal_intake (f : FormatNo) : (s.failSeal f).intake = s.intake := by
  simp [State.intake, State.failSeal]

theorem State.scanArea_intake (fails : List FormatNo) (f : FormatNo) : (s.scanArea fails f).intake = s.intake := by
  rcases s.scanArea_cases fails f with ⟨-, e⟩ | ⟨r, -, -, e⟩ | ⟨-, -, e⟩
  · rw [e]
  · simp [e, State.intake]
  · rw [e, State.raise_intake]
    split
    · rfl
    · exact State.setArea_intake ..

theorem State.scanAreas_intake (fails : List FormatNo) (fs : List FormatNo) :
    (fs.foldl (State.scanArea fails) s).intake = s.intake := by
  induction fs generalizing s with
  | nil => rfl
  | cons f fs ih => exact ih.trans (State.scanArea_intake fails f)

theorem State.startUpScan_intake (fails : List FormatNo) : (s.startUpScan fails).intake = s.intake :=
  (State.scanAreas_intake fails _).trans (State.raiseIf_intake ..)

@[simp] theorem State.scanErase_intake (i : PlanAreaId) (fails : Bool) : (s.scanErase i fails).intake = s.intake := by
  unfold State.scanErase
  split <;> simp

@[simp] theorem State.scanPlanArea_intake (i : PlanAreaId) (fails : Bool) :
    (s.scanPlanArea i fails).intake = s.intake := by
  unfold State.scanPlanArea
  split <;> simp

theorem State.endScan_intake (a b : Bool) : (s.endScan a b).intake = s.intake := by
  have hareas : ((s.scanPlanArea .a a).scanPlanArea .b b).intake = s.intake := by simp
  unfold State.endScan
  simp only
  split
  · exact (State.raiseIf_intake ..).trans ((State.scanErase_intake ..).trans hareas)
  · exact hareas

end Sys2Proof.Machine
end

/-! ## An owning block leaves the queue and the links alone -/

section
namespace Sys2Proof.Machine

variable {s : State} {l : LinkId} {k : ReqKind} {p : List Byte}

/-- No block writes the queue or a link: the reads change nothing, and each branch of the others ends in a named update
that leaves both. -/
theorem ownBlock_intake (l : LinkId) (p : List Byte) (k : ReqKind) (s : State) :
    (ownBlock l p k s).1.intake = s.intake := by
  cases k with
  | ident | statusRead | planRead | monitorRead | lineRestart => rfl
  | slotRead | attentionClear =>
    simp only [ownBlock, ownSlotRead, ownAttentionClear]
    split <;> rfl
  | lineChange | lineExtend | serviceEnter | serviceLeave =>
    simp only [ownBlock, ownLineChange, ownLineExtend, State.extend, ownServiceEnter, ownServiceLeave, State.leaveService]
    repeat' split
    all_goals rfl
  | lineAbandon =>
    simp only [ownBlock, ownLineAbandon]
    split
    · exact State.abandon_intake _
    · rfl
  | planWrite | monitorSet | tripClear =>
    simp only [ownBlock, ownPlanWrite, ownMonitorSet, ownTripClear]
    repeat' split
    all_goals rfl
  | manifestBegin | manifestPart | manifestEnd =>
    simp only [ownBlock, ownManifestBegin, ownManifestPart, ownManifestEnd]
    repeat' split
    all_goals simp only [State.setBuffer_intake, State.queueVerification_intake]
  | formatOpen | entryAdd | entryDrop | formatSet =>
    simp only [ownBlock, ownFormatOpen, ownEntryAdd, ownEntryDrop, ownFormatSet]
    repeat' split
    all_goals simp only [State.openFormat_intake, State.addEntry_intake, State.dropEntry_intake, State.setFields_intake]
  | formatSeal | formatDiscard | formatRetire =>
    simp only [ownBlock, ownFormatSeal, ownFormatDiscard, ownFormatRetire]
    repeat' split
    all_goals simp only [State.beginSeal_intake, State.discard_intake, State.beginRetire_intake]
  | formatRead | entryRead =>
    simp only [ownBlock, ownFormatRead, ownEntryRead]
    repeat' split
    all_goals simp only [State.readRestarts_intake]

end Sys2Proof.Machine
end

/-! ## Every command answers a next state with the queue as it was -/

section
namespace Sys2Proof.Machine

variable {s t : State} {l : LinkId}

/-- The outcome of a command on `s` is a next state with the queue of `s`: no fault and no refusal. -/
def State.KeepsQueue (s : State) (o : Host.Outcome State Fault Refusal) : Prop :=
  ∃ t, o = .next t ∧ t.pending = s.pending

theorem State.KeepsQueue.of_pending (h : t.pending = s.pending) : s.KeepsQueue (.next t) := ⟨t, rfl, h⟩

theorem State.KeepsQueue.of_intake (h : t.intake = s.intake) : s.KeepsQueue (.next t) :=
  .of_pending (State.intake_eq_iff.1 h).1

@[simp] theorem State.respondTo_pending (c : Option LinkId) (r : Result) (b : List Byte) :
    (s.respondTo c r b).pending = s.pending := by
  cases c <;> rfl

/-- The response of a long operation leaves the queue. -/
theorem State.KeepsQueue.respondTo {c : Option LinkId} {r : Result} {b : List Byte} (h : t.intake = s.intake) :
    s.KeepsQueue (.next (t.respondTo c r b)) :=
  .of_pending ((State.respondTo_pending ..).trans (State.intake_eq_iff.1 h).1)

/-! Requests and frames. -/

theorem exec_requestCommand_keepsQueue (l : LinkId) (k : ReqKind) (p : List Byte) (s : State) :
    s.KeepsQueue (exec (requestCommand l k p) s) := by
  rw [exec_requestCommand]
  have block (u : State) (h : u.pending = s.pending) : (ownBlock l p k u).1.pending = s.pending :=
    (State.intake_eq_iff.1 (ownBlock_intake l p k u)).1.trans h
  exact .of_pending (State.serve_keeps (fun _ _ _ h => h) (fun u h _ _ => block u h) rfl)

theorem exec_unknown_keepsQueue (l : LinkId) (kind : Byte) (p : List Byte) (s : State) :
    s.KeepsQueue (exec (.unknown l kind p) s) := by
  refine .of_pending ?_
  unfold State.take
  simp only
  repeat' split
  all_goals rfl

theorem takeFrame_keepsQueue (l : LinkId) (kind : Byte) (p : List Byte) (s : State) :
    s.KeepsQueue (takeFrame l kind p s) := by
  rw [takeFrame_eq]
  unfold commandOf
  split
  · exact exec_requestCommand_keepsQueue ..
  · exact exec_unknown_keepsQueue ..

/-- A character moves the receiver, or ends a frame that is taken or discarded (R143, R144). -/
theorem deliver_keepsQueue (l : LinkId) (ch : Byte) (s : State) : s.KeepsQueue (deliver l ch s) := by
  unfold deliver
  split
  · refine .of_pending ?_
    split <;> rfl
  · exact .of_pending rfl
  · split
    · exact .of_pending rfl
    · unfold checkFrame
      simp only
      split
      · exact takeFrame_keepsQueue ..
      · exact .of_pending rfl

theorem exec_characterReceived_keepsQueue (l : LinkId) (ch : Byte) (stop : Bool) (s : State) :
    s.KeepsQueue (exec (.characterReceived l ch stop) s) := by
  change s.KeepsQueue (execCharacterReceived l ch stop s)
  unfold execCharacterReceived
  split
  · exact .of_pending rfl
  · split
    · exact deliver_keepsQueue ..
    · exact .of_pending rfl

theorem exec_linkBreak_keepsQueue (l : LinkId) (s : State) : s.KeepsQueue (exec (.linkBreak l) s) := by
  change s.KeepsQueue (execLinkBreak l s)
  unfold execLinkBreak
  split
  · exact .of_pending rfl
  · exact .of_pending (State.intake_eq_iff.1 State.cancelManifest_intake).1

theorem exec_frameGapTimeout_keepsQueue (l : LinkId) (s : State) : s.KeepsQueue (exec (.frameGapTimeout l) s) := by
  refine .of_pending ?_
  split <;> rfl

/-! Comparisons and timers. -/

theorem exec_comparisonEnd_keepsQueue (s : State) : s.KeepsQueue (exec .comparisonEnd s) := by
  change s.KeepsQueue (execComparisonEnd s)
  unfold execComparisonEnd
  split
  · exact .of_pending rfl
  · split
    · rename_i v _
      have hoffer := (State.intake_eq_iff.1 (State.offer_intake (s := s) v (s.sequenceOf v))).1
      exact .of_pending ((State.intake_eq_iff.1 State.startComparison_intake).1.trans hoffer)
    all_goals exact .of_intake State.startComparison_intake

theorem exec_presentationTimerExpiry_keepsQueue (k : SlotId) (s : State) :
    s.KeepsQueue (exec (.presentationTimerExpiry k) s) := by
  change s.KeepsQueue (execPresentationTimerExpiry k s)
  unfold execPresentationTimerExpiry
  split
  · exact .of_intake (State.degrade_intake ..)
  · exact .of_intake (State.degrade_intake ..)
  · exact .of_intake (State.degrade_intake ..)
  · exact .of_intake rfl

theorem exec_settleTimerExpiry_keepsQueue (s : State) : s.KeepsQueue (exec .settleTimerExpiry s) := by
  change s.KeepsQueue (execSettleTimerExpiry s)
  unfold execSettleTimerExpiry
  split
  · exact .of_pending (State.takeEvent_pending ..)
  all_goals exact .of_pending rfl

theorem exec_idleTimerExpiry_keepsQueue (s : State) : s.KeepsQueue (exec .idleTimerExpiry s) := by
  change s.KeepsQueue (execIdleTimerExpiry s)
  unfold execIdleTimerExpiry
  split
  · exact .of_intake (State.discard_intake _)
  · exact .of_intake rfl

/-! The program engine. -/

theorem exec_sealCompletion_keepsQueue (o : SealOutcome) (s : State) : s.KeepsQueue (exec (.sealCompletion o) s) := by
  change s.KeepsQueue (execSealCompletion o s)
  unfold execSealCompletion
  split
  · split
    · exact .respondTo (by simp)
    · exact .respondTo (by simp)
  · exact .of_intake rfl

theorem exec_retireEraseCompletion_keepsQueue (o : RetireOutcome) (s : State) :
    s.KeepsQueue (exec (.retireEraseCompletion o) s) := by
  change s.KeepsQueue (execRetireEraseCompletion o s)
  unfold execRetireEraseCompletion
  split
  · split
    · exact .respondTo (State.retireSteps_intake _ 2)
    · exact .respondTo (State.retireSteps_intake _ 1)
    · exact .respondTo rfl
  · exact .of_intake rfl

theorem exec_planWriteCompletion_keepsQueue (o : PlanOutcome) (s : State) :
    s.KeepsQueue (exec (.planWriteCompletion o) s) := by
  change s.KeepsQueue (execPlanWriteCompletion o s)
  unfold execPlanWriteCompletion
  split
  · split
    · exact .respondTo ((State.raiseIf_intake ..).trans (State.planSteps_intake ..))
    · exact .respondTo (State.planSteps_intake ..)
  · exact .of_intake rfl

/-! The resets and the scan. -/

theorem exec_powerOn_keepsQueue (n : Nat) (fails : List FormatNo) (s : State) :
    s.KeepsQueue (exec (.powerOn n fails) s) := by
  have hstop := (State.intake_eq_iff.1 (State.stopEngine_intake (s := s) n)).1
  change s.KeepsQueue (execPowerOn n fails s)
  unfold execPowerOn
  simp only
  split
  · exact .of_pending hstop
  all_goals exact .of_pending ((State.intake_eq_iff.1 (State.startUpScan_intake fails)).1.trans hstop)

theorem exec_pinReset_keepsQueue (n : Nat) (s : State) : s.KeepsQueue (exec (.pinReset n) s) :=
  .of_pending (State.intake_eq_iff.1 (State.stopEngine_intake n)).1

theorem exec_pinResetRelease_keepsQueue (fails : List FormatNo) (s : State) :
    s.KeepsQueue (exec (.pinResetRelease fails) s) := by
  change s.KeepsQueue (execPinResetRelease fails s)
  unfold execPinResetRelease
  split
  · exact .of_intake (State.startUpScan_intake fails)
  all_goals exact .of_intake rfl

theorem exec_scanEnd_keepsQueue (a b : Bool) (s : State) : s.KeepsQueue (exec (.scanEnd a b) s) := by
  change s.KeepsQueue (execScanEnd a b s)
  unfold execScanEnd
  split
  · exact .of_intake (State.endScan_intake a b)
  all_goals exact .of_intake rfl

/-- Settles O2: requests by the service around their block, events one by one. -/
theorem everyCommandAnswersANextState : Obligations.EveryCommandAnswersANextState := by
  unfold Obligations.EveryCommandAnswersANextState
  intro c s
  change s.KeepsQueue (exec c s)
  cases hreq : c.request? with
  | some request =>
    obtain ⟨l, k, p⟩ := request
    rw [request_eq_requestCommand hreq]
    exact exec_requestCommand_keepsQueue l k p s
  | none =>
    cases c with
    | powerOn n fails => exact exec_powerOn_keepsQueue n fails s
    | pinReset n => exact exec_pinReset_keepsQueue n s
    | pinResetRelease fails => exact exec_pinResetRelease_keepsQueue fails s
    | scanEnd a b => exact exec_scanEnd_keepsQueue a b s
    | linkBreak l => exact exec_linkBreak_keepsQueue l s
    | frameGapTimeout l => exact exec_frameGapTimeout_keepsQueue l s
    | unknown l kind p => exact exec_unknown_keepsQueue l kind p s
    | comparisonEnd => exact exec_comparisonEnd_keepsQueue s
    | presentationTimerExpiry k => exact exec_presentationTimerExpiry_keepsQueue k s
    | settleTimerExpiry => exact exec_settleTimerExpiry_keepsQueue s
    | idleTimerExpiry => exact exec_idleTimerExpiry_keepsQueue s
    | sealCompletion o => exact exec_sealCompletion_keepsQueue o s
    | retireEraseCompletion o => exact exec_retireEraseCompletion_keepsQueue o s
    | planWriteCompletion o => exact exec_planWriteCompletion_keepsQueue o s
    | characterReceived l ch stop => exact exec_characterReceived_keepsQueue l ch stop s
    | crcMismatch | transmitComplete | residencyTick | linkLineReturnsHigh | rateStrapChange => exact .of_pending rfl
    | _ => cases hreq

end Sys2Proof.Machine
end

/-! ## TRANSMIT_COMPLETE (R146, R147) -/

section
namespace Sys2Proof.Machine

variable {x : Link} {k : Byte} {r : Response} {cs : List Byte}

/-- A free transmitter begins the waiting response first (R147). -/
theorem Link.arbitrate_response (hx : x.tx = none) (hs : x.service = some { kind := k, progress := .ready r }) :
    x.arbitrate =
      { x with service := some { kind := k, progress := .sending }, tx := some { isBusy := false, chars := r.frame } } := by
  simp only [Link.arbitrate, hx, hs]

/-- With no response waiting it looks at the BUSY slot (R147). -/
theorem Link.arbitrate_no_response (hx : x.tx = none)
    (hs : ∀ k r, x.service ≠ some { kind := k, progress := .ready r }) :
    (∀ k, x.busySlot = some k →
      x.arbitrate = { x with busySlot := none, tx := some { isBusy := true, chars := (busyAnswer k).frame } }) ∧
    (x.busySlot = none → x.arbitrate = x) := by
  unfold Link.arbitrate
  split
  · simp [hx] at *
  · split
    · exact absurd ‹_› (hs _ _)
    · exact ⟨fun k hslot => by rw [hslot], fun hslot => by rw [hslot]⟩

theorem Link.transmitted_idle (h : x.tx = none) : x.transmitted = x := by simp only [Link.transmitted, h]

/-- The end of a BUSY answer leaves the request in service (R147). -/
theorem Link.transmitted_busy (h : x.tx = some { isBusy := true, chars := cs }) :
    x.transmitted = { x with tx := none }.arbitrate := by
  simp only [Link.transmitted, h, if_true]

/-- The end of a response ends the service of its request (R146). -/
theorem Link.transmitted_response (h : x.tx = some { isBusy := false, chars := cs }) :
    x.transmitted = { x with tx := none, service := none }.arbitrate := by
  simp only [Link.transmitted, h, Bool.false_eq_true, if_false]

/-- Settles O12: a transmission ends, and the transmitter is free for what waits. -/
theorem transmitterServesItsQueue : Obligations.TransmitterServesItsQueue := by
  unfold Obligations.TransmitterServesItsQueue
  intro s l
  refine ⟨(s.link l).transmitted, rfl, Link.transmitted_idle, fun cs hbusy => ?_, fun cs hresponse => ?_⟩
  · rw [Link.transmitted_busy hbusy]
    exact ⟨fun k r hready => Link.arbitrate_response rfl hready,
      fun hready => Link.arbitrate_no_response (x := { s.link l with tx := none }) rfl hready⟩
  · rw [Link.transmitted_response hresponse]
    exact Link.arbitrate_no_response (x := { s.link l with tx := none, service := none }) rfl fun _ _ => nofun

end Sys2Proof.Machine
end

/-! ## Checks 2 to 6 of a taken request (R148) -/

section
namespace Sys2Proof.Machine

variable {s : State} {l : LinkId} {k : ReqKind} {p : List Byte} {r : Result}

/-- A frame on a link that attends is in service when its meaning begins (R146). -/
theorem State.take_attends (h : s.Attends l) (kind : Byte) (act : State → State) :
    s.take l kind act = act (s.serving l kind) := by
  have hreceives : (s.frameDone l).receives l = true := by simpa [State.receives] using h.receives
  have hservice : ((s.frameDone l).link l).service = none := by simpa using h.2.2
  simp only [State.take, hreceives, if_true, hservice, Option.isSome_none]
  simp [State.frameDone, State.serving, Link.begin]

/-- A frame whose KIND is no request kind is refused with UNKNOWN (check 2). -/
theorem exec_unknown_attends (h : s.Attends l) (kind : Byte) :
    exec (.unknown l kind p) s = .next (s.answered l kind .unknown []) :=
  congrArg _ ((State.take_attends h kind _).trans (State.respond_serving kind))

/-- A request that one of checks 3 to 6 refuses changes its link alone. -/
theorem exec_request_refused {i : Instr} (h : s.Attends l) (hi : i.request? = some (l, k, p))
    (hs : s.screen l k p = some r) : exec i s = .next (s.answered l (kindCode k) r []) := by
  rw [request_eq_requestCommand hi, exec_requestCommand, State.serve_refused h hs]

/-- Settles O14: each check is reached when those before it pass, and its refusal is the answer. -/
theorem checksAnswerInTheirOrder : Obligations.ChecksAnswerInTheirOrder := by
  unfold Obligations.ChecksAnswerInTheirOrder
  intro s l p attends
  refine ⟨fun kind _ => exec_unknown_attends attends kind, fun i k hi => ?_⟩
  have refused {r : Result} (hs : s.screen l k p = some r) := exec_request_refused attends hi hs
  refine ⟨fun hlen => refused ?_, fun hlen hrole => refused ?_, fun hlen hrole hphase => refused ?_,
    fun hlen hrole hphase hfrozen hfreeze => refused ?_⟩
  · simp only [State.screen, hlen, Bool.not_false, if_true]
  · simp only [State.screen, hlen, hrole, Bool.not_true, Bool.not_false, Bool.false_eq_true, if_true, if_false]
  · simp only [State.screen, hlen, hrole, hphase, Bool.not_true, Bool.not_false, Bool.false_eq_true, if_true, if_false]
  · simp only [State.screen, hlen, hrole, hphase, hfrozen, hfreeze, Bool.not_true, Bool.and_self, Bool.false_eq_true,
      if_true, if_false]

end Sys2Proof.Machine
end

/-! ## What the block that owns a request answers (R146, R148) -/

section
namespace Sys2Proof.Machine

variable {s t : State} {l m : LinkId} {k : ReqKind} {p payload : List Byte} {r : Result}

/-- The requests whose refusals may change more than their link (R22, R63, R66). -/
def restlessKinds : List ReqKind := [.manifestPart, .manifestEnd, .entryRead]

/-- The requests that the program engine answers at its completion (R12). -/
def engineKinds : List ReqKind := [.formatSeal, .formatRetire, .planWrite]

/-- A block's answer to a request of kind `k` in state `s`: a refusal changes nothing and carries no payload, and only a
request that claims the program engine waits for its response. -/
def AnswersCleanly (k : ReqKind) (s : State) (answer : State × Answer) : Prop :=
  match answer.2 with
  | .reply r payload => r.refuses = true → answer.1 = s ∧ payload = []
  | .later => k ∈ engineKinds

@[simp] theorem answersCleanly_reply : AnswersCleanly k s (t, .reply r payload) ↔
    (r.refuses = true → t = s ∧ payload = []) := .rfl

@[simp] theorem answersCleanly_later : AnswersCleanly k s (t, .later) ↔ k ∈ engineKinds := .rfl

/-- Each branch of a block refuses and changes nothing, answers with a code that does not refuse, or claims the engine. -/
theorem ownBlock_answersCleanly (h : k ∉ restlessKinds) (l : LinkId) (p : List Byte) (s : State) :
    AnswersCleanly k s (ownBlock l p k s) := by
  cases k with
  | manifestPart | manifestEnd | entryRead => exact absurd (by decide) h
  | ident | statusRead | planRead | monitorRead | lineRestart => exact nofun
  | formatSeal | formatRetire | planWrite =>
    simp only [ownBlock, ownFormatSeal, ownFormatRetire, ownPlanWrite]
    repeat' split
    all_goals simp [engineKinds]
  | slotRead | manifestBegin | attentionClear | monitorSet | tripClear =>
    simp only [ownBlock, ownSlotRead, ownManifestBegin, ownAttentionClear, ownMonitorSet, ownTripClear]
    repeat' split
    all_goals simp [Result.refuses]
  | lineChange | lineExtend | lineAbandon | serviceEnter | serviceLeave =>
    simp only [ownBlock, ownLineChange, ownLineExtend, State.extend, ownLineAbandon, ownServiceEnter, ownServiceLeave]
    repeat' split
    all_goals simp [Result.refuses]
  | formatOpen | entryAdd | entryDrop | formatSet | formatDiscard | formatRead =>
    simp only [ownBlock, ownFormatOpen, ownEntryAdd, ownEntryDrop, ownFormatSet, ownFormatDiscard, ownFormatRead]
    repeat' split
    all_goals simp [Result.refuses]

end Sys2Proof.Machine
end

/-! ## A refused request changes nothing but its link (R146, R148) -/

section
namespace Sys2Proof.Machine

variable {s t : State} {l m : LinkId} {k : ReqKind} {p payload : List Byte} {r : Result}

/-- The codes of checks 3 to 6 refuse. -/
theorem State.screen_refuses (h : s.screen l k p = some r) : r.refuses = true := by
  unfold State.screen at h
  repeat' split at h
  all_goals cases h
  all_goals rfl

theorem ownBlock_link (l : LinkId) (p : List Byte) (k : ReqKind) (s : State) (m : LinkId) :
    (ownBlock l p k s).1.link m = s.link m :=
  congrArg (·[m]) (State.intake_eq_iff.1 (ownBlock_intake l p k s)).2

theorem State.serving_link_of_ne (h : m ≠ l) (kind : Byte) : (s.serving l kind).link m = s.link m :=
  State.setLink_link_of_ne s _ h

theorem State.answered_link_of_ne (h : m ≠ l) (kind : Byte) : (s.answered l kind r payload).link m = s.link m :=
  State.setLink_link_of_ne s _ h

/-- The response that a block gives at once stands on the link as if nothing else had changed. -/
theorem State.respond_link_of_serving {kind : Byte} (h : t.link l = (s.serving l kind).link l) :
    (t.respond l r payload).link l = (s.answered l kind r payload).link l := by
  rw [← State.respond_serving, State.respond_link, State.respond_link, h]

/-- Settles O16: one of checks 3 to 6 refuses the request, or its block answers; no block touches a link. -/
theorem refusedRequestsChangeNothing : Obligations.RefusedRequestsChangeNothing := by
  unfold Obligations.RefusedRequestsChangeNothing
  intro i s l k p attends hi hk
  rw [request_eq_requestCommand hi, exec_requestCommand]
  refine ⟨_, rfl, ?_⟩
  cases hs : s.screen l k p with
  | some r =>
    rw [State.serve_refused attends hs]
    exact ⟨.inl ⟨r, State.screen_refuses hs, rfl⟩, fun m hm => State.answered_link_of_ne hm _⟩
  | none =>
    have clean := ownBlock_answersCleanly hk l p (s.serving l (kindCode k))
    have links := ownBlock_link l p k (s.serving l (kindCode k))
    cases ho : ownBlock l p k (s.serving l (kindCode k)) with
    | mk t answer =>
      rw [ho] at clean links
      have others (m : LinkId) (hm : m ≠ l) : t.link m = s.link m := (links m).trans (State.serving_link_of_ne hm _)
      cases answer with
      | reply r payload =>
        rw [State.serve_replies attends hs ho]
        refine ⟨?_, fun m hm => (State.setLink_link_of_ne t _ hm).trans (others m hm)⟩
        cases hr : r.refuses with
        | true =>
          obtain ⟨rfl, rfl⟩ := answersCleanly_reply.1 clean hr
          exact .inl ⟨r, hr, State.respond_serving _⟩
        | false => exact .inr (.inl ⟨r, payload, hr, State.respond_link_of_serving (links l)⟩)
      | later =>
        rw [State.serve_later attends hs ho]
        exact ⟨.inr (.inr ⟨answersCleanly_later.1 clean, links l⟩), others⟩

end Sys2Proof.Machine
end

/-! ## The characters of a frame (R163) -/

section
namespace Sys2Proof.Machine

/-- The two CRC characters put together. -/
theorem half_bytes2_parts (x : Word16) : ∃ hi lo : Byte, bytes2 x = [hi, lo] ∧ hi ++ lo = x :=
  ⟨_, _, rfl, halves_append (w := 8) x⟩

/-- A request frame: SYNC, LEN, KIND, payload, CRC. -/
theorem requestFrame_eq (kind : Byte) (p : List Byte) : ∃ hi lo : Byte,
    requestFrame kind p = [0xC3, BitVec.ofNat 8 p.length, kind] ++ p ++ [hi, lo] ∧
    hi ++ lo = crc16 (BitVec.ofNat 8 p.length :: kind :: p) := by
  obtain ⟨hi, lo, hbytes, hcrc⟩ := half_bytes2_parts (crc16 (BitVec.ofNat 8 p.length :: kind :: p))
  exact ⟨hi, lo, congrArg (0xC3 :: BitVec.ofNat 8 p.length :: kind :: p ++ ·) hbytes, hcrc⟩

/-- A response frame: SYNC, LEN, KIND + 0x80, result, payload, CRC. -/
theorem responseFrame_eq (r : Response) : ∃ hi lo : Byte,
    r.frame = [0xC3, BitVec.ofNat 8 r.payload.length, answerKind r.kind, r.result.code] ++ r.payload ++ [hi, lo] ∧
    hi ++ lo = crc16 (BitVec.ofNat 8 r.payload.length :: answerKind r.kind :: r.result.code :: r.payload) := by
  obtain ⟨hi, lo, hbytes, hcrc⟩ := half_bytes2_parts
    (crc16 (BitVec.ofNat 8 r.payload.length :: answerKind r.kind :: r.result.code :: r.payload))
  exact ⟨hi, lo, congrArg
    (0xC3 :: BitVec.ofNat 8 r.payload.length :: answerKind r.kind :: r.result.code :: r.payload ++ ·) hbytes, hcrc⟩

/-- KIND + 0x80 where it fits a character. -/
theorem answerKind_toNat {kind : Byte} (h : kind.toNat < 0x80) : (answerKind kind).toNat = kind.toNat + 0x80 := by
  have hkind : kind < 0x80 := h
  rw [answerKind, if_pos hkind]
  bv_omega

/-- The result codes of section 11.2. -/
theorem resultCode_mem (r : Result) :
    (r, r.code) ∈ [(Result.done, (0x00 : Byte)), (.adjusted, 0x01), (.busy, 0x10), (.role, 0x11), (.phase, 0x12),
      (.range, 0x13), (.order, 0x14), (.full, 0x15), (.state, 0x16), (.frozen, 0x17), (.unknown, 0x18),
      (.superseded, 0x19), (.storeFault, 0x1A), (.length, 0x1B)] := by
  cases r <;> decide

/-- The register after one more character: it is put into the upper half, and eight shifts follow. -/
theorem crc16_concat (cs : List Byte) (c : Byte) : crc16 (cs ++ [c]) =
    (fun x : Word16 => if x.msb then (x <<< 1) ^^^ 0x1021 else x <<< 1)^[8] (crc16 cs ^^^ (c ++ (0 : Byte))) :=
  List.foldl_append

end Sys2Proof.Machine
end

/-! ## The commands that are frames (log 5) -/

section
namespace Sys2Proof.Machine

variable {s : State} {l : LinkId} {i : Instr} {kind : Byte} {p : List Byte}

theorem frame?_requestCommand (l : LinkId) (k : ReqKind) (p : List Byte) :
    (requestCommand l k p).frame? = some (l, kindCode k, p) := by
  cases k <;> rfl

/-- A command that is a frame is UNKNOWN or a request. -/
theorem frame?_cases (h : i.frame? = some (l, kind, p)) :
    i = .unknown l kind p ∨ ∃ k, i.request? = some (l, k, p) ∧ kindCode k = kind := by
  cases hreq : i.request? with
  | some request =>
    obtain ⟨l', k, p'⟩ := request
    rw [request_eq_requestCommand hreq, frame?_requestCommand] at h
    cases h
    exact .inr ⟨k, rfl, rfl⟩
  | none =>
    cases i with
    | unknown =>
      cases h
      exact .inl rfl
    | _ => simp [Instr.frame?, hreq] at h

/-- A well-formed command that is a frame is the command its frame spells (R148). -/
theorem commandOf_frame (hw : wf i = true) (h : i.frame? = some (l, kind, p)) : commandOf l kind p = i := by
  rcases frame?_cases h with rfl | ⟨k, hreq, rfl⟩
  · exact Laws.Framed.unknown l kind p l kind p hw rfl
  · rw [commandOf, (kindOf_eq_some _ k).2 rfl, request_eq_requestCommand hreq]

/-- A frame is taken, and acts on what the end of its reception leaves (R143, R144). -/
theorem exec_frame (h : i.frame? = some (l, kind, p)) : ∃ act, ∀ s, exec i s = .next (s.take l kind act) := by
  rcases frame?_cases h with rfl | ⟨k, hreq, rfl⟩
  · exact ⟨_, fun _ => rfl⟩
  · rw [request_eq_requestCommand hreq]
    exact ⟨_, fun s => exec_requestCommand l k p s⟩

/-- Where the receiver stood in a frame, and its gap, are forgotten when the frame is complete (R143). -/
theorem State.frameDone_setReceiver (rx : Receiver) : (s.setReceiver l rx).frameDone l = s.frameDone l := by
  simp [State.frameDone, State.setReceiver]

theorem exec_frame_setReceiver (h : i.frame? = some (l, kind, p)) (rx : Receiver) :
    exec i (s.setReceiver l rx) = exec i s := by
  obtain ⟨act, hexec⟩ := exec_frame h
  rw [hexec, hexec, State.take, State.take, State.frameDone_setReceiver]

end Sys2Proof.Machine
end

/-! ## A frame received character by character (R143, R144) -/

section
namespace Sys2Proof.Machine

variable {s t : State} {l : LinkId} {kind ch : Byte} {len : Nat} {xs cs ds p : List Byte}

/-- Characters are delivered to the receiver: RESET_N is not held low, and the line is not low after a break. -/
def State.Listens (s : State) (l : LinkId) : Prop := s.stage ≠ .held ∧ (s.link l).lineLow = false

/-- The characters `cs` end one after another on link `l`, each with its stop bit high. -/
def characters (l : LinkId) (cs : List Byte) : List Instr := cs.map fun ch => .characterReceived l ch true

@[simp] theorem State.setReceiver_rx (rx : Receiver) : ((s.setReceiver l rx).link l).rx = rx := by
  simp [State.setReceiver]

@[simp] theorem State.setReceiver_setReceiver (rx rx' : Receiver) :
    (s.setReceiver l rx).setReceiver l rx' = s.setReceiver l rx' := by
  simp [State.setReceiver]

theorem State.Listens.setReceiver (h : s.Listens l) (rx : Receiver) : (s.setReceiver l rx).Listens l := by
  simpa [State.Listens, State.setReceiver] using h

theorem exec_characterReceived_listens (h : s.Listens l) :
    exec (.characterReceived l ch true) s = deliver l ch s := by
  change execCharacterReceived l ch true s = _
  rw [execCharacterReceived, if_neg (by simpa [State.Listens] using h), if_pos rfl]

/-! The receiver's table of R143. -/

theorem deliver_sync (h : (s.link l).rx = .hunt) : deliver l 0xC3 s = .next (s.setReceiver l .length) := by
  simp only [deliver, h, if_true]

theorem deliver_len (h : (s.link l).rx = .length) (hch : ch.toNat ≤ 196) :
    deliver l ch s = .next (s.setReceiver l (.body ch.toNat [])) := by
  simp only [deliver, h, lenLimit, hch, if_true]

theorem deliver_body (h : (s.link l).rx = .body len xs) (hlen : xs.length + 1 < len + 3) :
    deliver l ch s = .next (s.setReceiver l (.body len (xs ++ [ch]))) := by
  simp only [deliver, h, if_pos hlen]

theorem deliver_last (h : (s.link l).rx = .body len xs) (hlen : len + 3 ≤ xs.length + 1) :
    deliver l ch s = checkFrame l len (xs ++ [ch]) s := by
  simp only [deliver, h, if_neg (Nat.not_lt.2 hlen)]

/-- A frame whose CRC matches is the command it spells (R144). -/
theorem checkFrame_matches {hi lo : Byte} (hlen : p.length = len)
    (hcrc : hi ++ lo = crc16 (BitVec.ofNat 8 len :: kind :: p)) :
    checkFrame l len (kind :: p ++ [hi, lo]) s = exec (commandOf l kind p) s := by
  subst hlen
  have htaken : (kind :: p ++ [hi, lo]).take (p.length + 1) = kind :: p := List.take_left' rfl
  have hends : half (kind :: p ++ [hi, lo]) (p.length + 1) = hi ++ lo := by
    rw [half_append_right (by simp)]
    simp [half, byteAt]
  have hpayload : ((kind :: p ++ [hi, lo]).drop 1).take p.length = p := List.take_left
  simp only [checkFrame, htaken, hends, hcrc, hpayload, if_true]
  exact takeFrame_eq l kind p s

/-! Characters one after another. -/

theorem execAll_characters_cons (h : s.Listens l) (hd : deliver l ch s = .next t) :
    execAll (characters l (ch :: cs)) s = execAll (characters l cs) t := by
  rw [characters, List.map_cons, execAll, exec_characterReceived_listens h, hd]
  rfl

/-- A character after which none follows. -/
theorem execAll_characters_singleton (h : s.Listens l) : execAll (characters l [ch]) s = deliver l ch s := by
  rw [characters, List.map_singleton, execAll, exec_characterReceived_listens h]
  cases deliver l ch s <;> rfl

/-- The receiver gathers the characters after LEN up to the last but one. -/
theorem execAll_characters_body (h : s.Listens l) (hlen : xs.length + cs.length < len + 3) :
    execAll (characters l (cs ++ ds)) (s.setReceiver l (.body len xs)) =
      execAll (characters l ds) (s.setReceiver l (.body len (xs ++ cs))) := by
  induction cs generalizing xs with
  | nil => simp
  | cons c cs ih =>
    simp only [List.length_cons] at hlen
    rw [List.cons_append, execAll_characters_cons (h.setReceiver _) (deliver_body (State.setReceiver_rx _) (by omega)),
      State.setReceiver_setReceiver, ih (by simp; omega), List.append_assoc, List.singleton_append]

/-- The characters of a frame whose payload a receiver accepts run as the command the frame spells, on the receiver that
has all of them but the last. -/
theorem execAll_requestFrame (h : s.Listens l) (hrx : (s.link l).rx = .hunt) (hp : p.length ≤ 196) : ∃ rx,
    execAll (characters l (requestFrame kind p)) s = exec (commandOf l kind p) (s.setReceiver l rx) := by
  obtain ⟨hi, lo, hframe, hcrc⟩ := requestFrame_eq kind p
  have hchars : requestFrame kind p = 0xC3 :: BitVec.ofNat 8 p.length :: ((kind :: p ++ [hi]) ++ [lo]) := by
    simp [hframe]
  have hlen : (BitVec.ofNat 8 p.length).toNat = p.length := by
    rw [BitVec.toNat_ofNat]
    omega
  refine ⟨.body p.length (kind :: p ++ [hi]), ?_⟩
  calc execAll (characters l (requestFrame kind p)) s
    _ = execAll (characters l (BitVec.ofNat 8 p.length :: ((kind :: p ++ [hi]) ++ [lo]))) (s.setReceiver l .length) := by
      rw [hchars, execAll_characters_cons h (deliver_sync hrx)]
    _ = execAll (characters l ((kind :: p ++ [hi]) ++ [lo])) (s.setReceiver l (.body p.length [])) := by
      rw [execAll_characters_cons (h.setReceiver _) (deliver_len (State.setReceiver_rx _) (by omega)), hlen,
        State.setReceiver_setReceiver]
    _ = execAll (characters l [lo]) (s.setReceiver l (.body p.length (kind :: p ++ [hi]))) :=
      execAll_characters_body h (by simp)
    _ = checkFrame l p.length (kind :: p ++ [hi, lo]) (s.setReceiver l (.body p.length (kind :: p ++ [hi]))) := by
      rw [execAll_characters_singleton (h.setReceiver _), deliver_last (State.setReceiver_rx _) (by simp)]
      simp
    _ = exec (commandOf l kind p) (s.setReceiver l (.body p.length (kind :: p ++ [hi]))) := checkFrame_matches rfl hcrc

/-- A well-formed frame has a payload that a receiver accepts (R143). -/
theorem payload_fits {i : Instr} (hw : wf i = true) (h : i.frame? = some (l, kind, p)) : p.length ≤ 196 := by
  have hfits : i.payload.length ≤ 196 := by
    simp only [wf, payloadFits, Bool.and_eq_true, decide_eq_true_eq] at hw
    exact hw.1.1.1
  have hpayload : i.payload = p := by
    rcases frame?_cases h with rfl | ⟨k, hreq, -⟩
    · rfl
    · rw [request_eq_requestCommand hreq]
      cases k <;> rfl
  rwa [hpayload] at hfits

/-- Settles O9: the frame is gathered character by character, and where it stood is forgotten when it is complete. -/
theorem requestsReadBackFromTheirFrames : Obligations.RequestsReadBackFromTheirFrames := by
  unfold Obligations.RequestsReadBackFromTheirFrames
  refine ⟨fun i s l kind p hw hi hstage hline hrx => ?_, requestFrame_eq, fun r _ => ?_, rfl, crc16_concat⟩
  · obtain ⟨rx, hframe⟩ := execAll_requestFrame (kind := kind) ⟨hstage, hline⟩ hrx (payload_fits hw hi)
    rwa [commandOf_frame hw hi, exec_frame_setReceiver hi] at hframe
  · obtain ⟨hi, lo, hframe, hcrc⟩ := responseFrame_eq r
    exact ⟨_, _, hi, lo, answerKind_toNat, resultCode_mem r.result, hframe, hcrc⟩

end Sys2Proof.Machine
end

/-! ## ATTENTION-CLEAR (R159, R160) -/

section
namespace Sys2Proof.Machine

variable {s : State} {l : LinkId} {k : ReqKind} {p payload : List Byte} {own : State → State × Answer} {r : Result}

/-- Every bit of the attention register is the bit of a flag (R164). -/
theorem Flag.exists_bit {i : Nat} (h : i < 9) : ∃ f : Flag, f.bit = i := by
  match i, h with
  | 0, _ => exact ⟨.commit, rfl⟩
  | 1, _ => exact ⟨.stall, rfl⟩
  | 2, _ => exact ⟨.abandon, rfl⟩
  | 3, _ => exact ⟨.seal, rfl⟩
  | 4, _ => exact ⟨.refuse, rfl⟩
  | 5, _ => exact ⟨.stale, rfl⟩
  | 6, _ => exact ⟨.lapse, rfl⟩
  | 7, _ => exact ⟨.trip, rfl⟩
  | 8, _ => exact ⟨.store, rfl⟩

/-- ATTN_N is released exactly when no flag is set (R159). -/
theorem State.attnLow_eq_false_iff (s : State) : s.attnLow = false ↔ ∀ f : Flag, s.flagged f = false := by
  rw [State.attnLow, bne_eq_false_iff_eq]
  constructor
  · intro h f
    rw [State.flagged, h]
    exact BitVec.getLsbD_zero
  · refine fun h => BitVec.eq_of_getLsbD_eq fun i hi => ?_
    obtain ⟨f, rfl⟩ := Flag.exists_bit hi
    exact (h f).trans BitVec.getLsbD_zero.symm

/-- The flags that an ATTENTION-CLEAR of `mask` leaves. -/
def State.attentionLeft (s : State) (mask : Word16) : BitVec 9 := s.attention &&& ~~~mask.setWidth 9

theorem State.attentionLeft_getLsbD (s : State) (mask : Word16) (f : Flag) :
    (s.attentionLeft mask).getLsbD f.bit = (s.flagged f && !mask.getLsbD f.bit) := by
  simp only [State.flagged, State.attentionLeft, BitVec.getLsbD_and, BitVec.getLsbD_not, BitVec.getLsbD_setWidth, f.bit_lt,
    decide_true, Bool.true_and]

/-- A set of at most sixteen members reads back from its two bytes. -/
theorem half_set2_toNat {w : Nat} (hw : w ≤ 16) (x : BitVec w) : (half (set2 x) 0).toNat = x.toNat := by
  rw [set2, half_bytes2, BitVec.toNat_setWidth_of_le hw]

theorem ownAttentionClear_range (h : 511 < (half p 0).toNat) : ownAttentionClear p s = (s, .reply .range []) :=
  if_neg (by omega)

theorem ownAttentionClear_eq (h : (half p 0).toNat ≤ 511) : ownAttentionClear p s =
    ({ s with attention := s.attentionLeft (half p 0) }, .reply .done (set2 (s.attentionLeft (half p 0)))) :=
  if_pos (by omega)

/-- ATTENTION-CLEAR passes for SUPERVISOR in every line phase and whatever the freeze (R149 to R151). -/
theorem State.screen_attentionClear (h : s.Hears l .supervisor) (hlen : p.length = 2) :
    s.screen l .attentionClear p = none := by
  have hrole : roleMay s.plan[l] .attentionClear p = true := by rw [h.2]; rfl
  exact State.screen_passes (by simp [lengthOk, hlen]) hrole rfl (.inr rfl)

/-- An owning block that writes the attention flags and answers leaves that and the answer. -/
theorem State.serve_setsAttention (h : s.Attends l) (hs : s.screen l k p = none) {flags : BitVec 9}
    (ho : own (s.serving l (kindCode k)) = ({ s.serving l (kindCode k) with attention := flags }, .reply r payload)) :
    s.serve l k p own = { s.answered l (kindCode k) r payload with attention := flags } := by
  rw [State.serve_replies h hs ho, ← State.respond_serving]
  rfl

/-- Settles O36: past the checks the block's outcome is RANGE or the flags left, which decide ATTN_N. -/
theorem attentionClearClearsTheNamed : Obligations.AttentionClearClearsTheNamed := by
  unfold Obligations.AttentionClearClearsTheNamed
  intro s l p hears hlen
  have hpass : s.screen l .attentionClear p = none := State.screen_attentionClear hears hlen
  refine ⟨fun h => ?_, fun h => ⟨{ s.answered l 0x26 .done (set2 (s.attentionLeft (half p 0))) with
    attention := s.attentionLeft (half p 0) }, _, ?_, rfl, rfl, half_set2_toNat (by decide) _,
    s.attentionLeft_getLsbD (half p 0), State.attnLow_eq_false_iff _⟩⟩
  · exact congrArg _ (State.serve_answers hears.1 hpass (ownAttentionClear_range h))
  · exact congrArg _ (State.serve_setsAttention hears.1 hpass (ownAttentionClear_eq h))

end Sys2Proof.Machine
end

/-! ## STATUS-READ (R157) -/

section
namespace Sys2Proof.Machine

/-! A part of a response, by the place where it begins. -/

/-- The bytes `part` stand in `b` from byte `n` on. -/
def StandsAt (b : List Byte) (n : Nat) (part : List Byte) : Prop :=
  ∃ before after, b = before ++ (part ++ after) ∧ before.length = n

variable {b p q : List Byte} {n i : Nat} {s : State} {l : LinkId}

theorem StandsAt.byteAt_eq (h : StandsAt b n p) (hi : i < p.length) : byteAt b (n + i) = byteAt p i := by
  obtain ⟨before, after, rfl, rfl⟩ := h
  rw [byteAt_append_right (Nat.le_add_right _ _), Nat.add_sub_cancel_left, byteAt_append_left hi]

theorem StandsAt.half_eq (h : StandsAt b n p) (hi : i + 1 < p.length) : half b (n + i) = half p i :=
  half_congr (h.byteAt_eq (Nat.lt_of_succ_lt hi)) (h.byteAt_eq hi)

theorem standsAt_zero (h : b = p) : StandsAt b 0 p := ⟨[], [], by rw [h, List.append_nil, List.nil_append], rfl⟩

theorem StandsAt.left (h : StandsAt b n (p ++ q)) : StandsAt b n p := by
  obtain ⟨before, after, rfl, hlen⟩ := h
  exact ⟨before, q ++ after, by simp only [List.append_assoc], hlen⟩

theorem StandsAt.right (h : StandsAt b n (p ++ q)) : StandsAt b (n + p.length) q := by
  obtain ⟨before, after, rfl, rfl⟩ := h
  exact ⟨before ++ p, after, by simp only [List.append_assoc], List.length_append⟩

/-- A count below 256 reads back from its byte. -/
theorem StandsAt.count_eq (h : StandsAt b n p) (hi : i < p.length) {m : Nat} (hp : byteAt p i = BitVec.ofNat 8 m)
    (hm : m < 256) : (byteAt b (n + i)).toNat = m := by
  rw [h.byteAt_eq hi, hp, BitVec.toNat_ofNat, Nat.mod_eq_of_lt hm]

/-- A group of zeros. -/
theorem StandsAt.zeros_eq {m : Nat} (h : StandsAt b n (List.replicate m 0)) (hi : i < m) :
    byteAt b (n + i) = 0 :=
  (h.byteAt_eq (by rwa [List.length_replicate])).trans (byteAt_zeros m i)

/-- A set of at most eight members reads back from its byte. -/
theorem StandsAt.set_eq (h : StandsAt b n p) (hi : i < p.length) {w : Nat} {x : BitVec w}
    (hp : byteAt p i = x.setWidth 8) (hw : w ≤ 8) : (byteAt b (n + i)).toNat = x.toNat := by
  rw [h.byteAt_eq hi, hp, BitVec.toNat_setWidth_of_le hw]

/-! The parts of the response, of 6, 12, 4, 7, 3, 5 and 4 bytes (section 11.4). -/

/-- Phase, epoch, active format and its generation: bytes 0 to 5. -/
def State.statusHead (s : State) : List Byte := s.phaseEpoch ++ num1 s.active.val ++ bytes2 (s.genOf s.active)

/-- Verdicts and permits: bytes 22 to 28. -/
def State.trackerBytes (s : State) : List Byte := s.slots.toList.map (fun x => x.verdict.code) ++ set1 s.permits

/-- Freeze and attention flags: bytes 29 to 31. -/
def State.alertBytes (s : State) : List Byte := bool1 s.frozen ++ set2 s.attention

/-- Free pool entries, engine and plan-pending marker: bytes 37 to 40. -/
def State.storeBytes (s : State) : List Byte := num2 s.poolFree ++ bool1 s.engine.isSome ++ bool1 s.planPending

theorem statusBytes_eq (s : State) : s.statusBytes = s.statusHead ++ (changeoverBytes s.line ++ (serviceBytes s.line ++
    (s.trackerBytes ++ (s.alertBytes ++ (s.enrollBytes ++ s.storeBytes))))) := by
  simp only [State.statusBytes, State.statusHead, State.trackerBytes, State.alertBytes, State.storeBytes, List.append_assoc]

@[simp] theorem statusHead_length (s : State) : s.statusHead.length = 6 := rfl
@[simp] theorem changeoverBytes_length (line : Line) : (changeoverBytes line).length = 12 := by cases line <;> rfl
@[simp] theorem serviceBytes_length (line : Line) : (serviceBytes line).length = 4 := by cases line <;> rfl
@[simp] theorem trackerBytes_length (s : State) : s.trackerBytes.length = 7 := by simp [State.trackerBytes]
@[simp] theorem alertBytes_length (s : State) : s.alertBytes.length = 3 := rfl
@[simp] theorem enrollBytes_length (s : State) : s.enrollBytes.length = 5 := by
  unfold State.enrollBytes
  cases s.enroll <;> rfl
@[simp] theorem storeBytes_length (s : State) : s.storeBytes.length = 4 := rfl

theorem statusBytes_length (s : State) : s.statusBytes.length = 41 := by
  simp [statusBytes_eq]

/-- Where each part begins. -/
theorem statusBytes_parts (s : State) : StandsAt s.statusBytes 0 s.statusHead ∧
    StandsAt s.statusBytes 6 (changeoverBytes s.line) ∧ StandsAt s.statusBytes 18 (serviceBytes s.line) ∧
    StandsAt s.statusBytes 22 s.trackerBytes ∧ StandsAt s.statusBytes 29 s.alertBytes ∧
    StandsAt s.statusBytes 32 s.enrollBytes ∧ StandsAt s.statusBytes 37 s.storeBytes := by
  have h0 := standsAt_zero (statusBytes_eq s)
  have h6 := h0.right
  have h18 := h6.right
  have h22 := h18.right
  have h29 := h22.right
  have h32 := h29.right
  have h37 := h32.right
  simp only [statusHead_length, changeoverBytes_length, serviceBytes_length, trackerBytes_length, alertBytes_length,
    enrollBytes_length] at h6 h18 h22 h29 h32 h37
  exact ⟨h0.left, h6.left, h18.left, h22.left, h29.left, h32.left, h37⟩

/-! Each part, field by field. -/

theorem status_head (h : StandsAt b 0 s.statusHead) : byteAt b 0 = s.line.phaseCode ∧ half b 1 = s.epoch ∧
    (byteAt b 3).toNat = s.active.val ∧ half b 4 = s.genOf s.active :=
  ⟨h.byteAt_eq (i := 0) (by simp), (h.half_eq (i := 1) (by simp)).trans (half_bytes2 _),
    h.count_eq (i := 3) (by simp) rfl (by omega), (h.half_eq (i := 4) (by simp)).trans (half_bytes2 _)⟩

/-- The changeover context in the response: bytes 6 to 15. -/
def Changeover.contextBytes (c : Changeover) : List Byte :=
  num1 c.target.val ++ bytes2 c.targetGen ++ [c.cause.code] ++ num1 c.origin.val ++ bytes2 c.originGen
    ++ set1 c.participants ++ set1 c.ready ++ num1 c.extensions

@[simp] theorem Changeover.contextBytes_length (c : Changeover) : c.contextBytes.length = 10 := rfl

theorem changeoverBytes_changeover (c : Changeover) (m : Nat) :
    changeoverBytes (.changeover c m) = c.contextBytes ++ num2 ((m + 999) / 1000) := rfl

theorem changeoverBytes_stalled (c : Changeover) : changeoverBytes (.stalled c) = c.contextBytes ++ [0xFF, 0xFF] := rfl

/-- In CHANGEOVER and STALLED the group is the context, then the settle time. -/
theorem changeoverBytes_of_changeover {line : Line} {c : Changeover} (h : line.changeover? = some c) :
    ∃ settle, changeoverBytes line = c.contextBytes ++ settle := by
  cases line with
  | changeover c' m =>
    cases h
    exact ⟨_, changeoverBytes_changeover c m⟩
  | stalled c' =>
    cases h
    exact ⟨_, changeoverBytes_stalled c⟩
  | _ => cases h

theorem changeoverBytes_of_no_changeover {line : Line} (h : line.changeover? = none) :
    changeoverBytes line = List.replicate 12 0 := by
  cases line with
  | changeover c m => cases h
  | stalled c => cases h
  | _ => rfl

theorem status_context {c : Changeover} (h : StandsAt b 6 c.contextBytes) :
    (byteAt b 6).toNat = c.target.val ∧ half b 7 = c.targetGen ∧ byteAt b 9 = c.cause.code ∧
    (byteAt b 10).toNat = c.origin.val ∧ half b 11 = c.originGen ∧ (byteAt b 13).toNat = c.participants.toNat ∧
    (byteAt b 14).toNat = c.ready.toNat ∧ byteAt b 15 = BitVec.ofNat 8 c.extensions :=
  ⟨h.count_eq (i := 0) (by simp) rfl (by omega), (h.half_eq (i := 1) (by simp)).trans (half_bytes2 _),
    h.byteAt_eq (i := 3) (by simp), h.count_eq (i := 4) (by simp) rfl (by omega),
    (h.half_eq (i := 5) (by simp)).trans (half_bytes2 _), h.set_eq (i := 7) (by simp) rfl (by decide),
    h.set_eq (i := 8) (by simp) rfl (by decide), h.byteAt_eq (i := 9) (by simp)⟩

theorem status_settle {c : Changeover} (h : StandsAt b 6 (c.contextBytes ++ p)) (hlen : p.length = 2) :
    half b 16 = half p 0 :=
  h.right.half_eq (i := 0) (by omega)

theorem serviceBytes_of_no_service {line : Line} (h : ∀ kept ret g, line ≠ .service kept ret g) :
    serviceBytes line = List.replicate 4 0 := by
  cases line with
  | service kept ret g => exact absurd rfl (h kept ret g)
  | _ => rfl

theorem status_service {kept : SlotSet} {ret : FormatNo} {g : Word16}
    (h : StandsAt b 18 (num1 ret.val ++ bytes2 g ++ set1 kept)) :
    (byteAt b 18).toNat = ret.val ∧ half b 19 = g ∧ (byteAt b 21).toNat = kept.toNat :=
  ⟨h.count_eq (i := 0) (by simp) rfl (by omega), (h.half_eq (i := 1) (by simp)).trans (half_bytes2 _),
    h.set_eq (i := 3) (by simp) rfl (by decide)⟩

theorem status_trackers (h : StandsAt b 22 s.trackerBytes) (k : SlotId) :
    byteAt b (22 + k.val) = s.slots[k].verdict.code ∧ (byteAt b 28).getLsbD k.val = s.slots[k].permit := by
  have hk := k.isLt
  have hset : StandsAt b 28 (set1 s.permits) := by simpa using h.right
  have hpermits : byteAt b 28 = s.permits.setWidth 8 := hset.byteAt_eq (i := 0) (by simp)
  constructor
  · rw [h.left.byteAt_eq (by simp)]
    simp [byteAt]
  · rw [hpermits, BitVec.getLsbD_setWidth, State.permits, slotsWhere_getLsbD, decide_eq_true (by omega), Bool.true_and]

theorem status_alerts (h : StandsAt b 29 s.alertBytes) :
    (byteAt b 29 = 1 ↔ s.frozen = true) ∧ (half b 30).toNat = s.attention.toNat := by
  have hfrozen : byteAt b 29 = byteAt (bool1 s.frozen) 0 := h.byteAt_eq (i := 0) (by simp)
  have hflags : half b 30 = half (set2 s.attention) 0 := h.half_eq (i := 1) (by simp)
  rw [hfrozen, hflags]
  exact ⟨bool1_eq_one _, half_set2_toNat (by decide) _⟩

theorem enrollBytes_of_context {c : EnrollContext} (h : s.enroll = some c) : s.enrollBytes = num1 c.format.val ++
    num1 c.owner.val ++ num2 (s.fmt c.format).entryCount ++ [(s.fmt c.format).state.code] := by
  simp only [State.enrollBytes, h]

theorem enrollBytes_of_no_context (h : s.enroll = none) : s.enrollBytes = [0, 0xFF, 0, 0, 0] := by
  simp only [State.enrollBytes, h]

theorem status_enroll (h : StandsAt b 32 s.enrollBytes) {c : EnrollContext} (hc : s.enroll = some c) :
    (byteAt b 32).toNat = c.format.val ∧ (byteAt b 33).toNat = c.owner.val ∧
    half b 34 = BitVec.ofNat 16 (s.fmt c.format).entryCount ∧ byteAt b 36 = (s.fmt c.format).state.code := by
  rw [enrollBytes_of_context hc] at h
  exact ⟨h.count_eq (i := 0) (by simp) rfl (by omega), h.count_eq (i := 1) (by simp) rfl (by omega),
    (h.half_eq (i := 2) (by simp)).trans (half_num2 _), h.byteAt_eq (i := 4) (by simp)⟩

theorem status_no_enroll (h : StandsAt b 32 s.enrollBytes) (hc : s.enroll = none) :
    byteAt b 32 = 0 ∧ byteAt b 33 = 0xFF ∧ half b 34 = 0 ∧ byteAt b 36 = 0 := by
  rw [enrollBytes_of_no_context hc] at h
  exact ⟨h.byteAt_eq (i := 0) (by simp), h.byteAt_eq (i := 1) (by simp), h.half_eq (i := 2) (by simp),
    h.byteAt_eq (i := 4) (by simp)⟩

theorem status_store (h : StandsAt b 37 s.storeBytes) : half b 37 = BitVec.ofNat 16 s.poolFree ∧
    (byteAt b 39 = 1 ↔ s.engine.isSome = true) ∧ (byteAt b 40 = 1 ↔ s.planPending = true) := by
  have hengine : byteAt b 39 = byteAt (bool1 s.engine.isSome) 0 := h.byteAt_eq (i := 2) (by simp)
  have hpending : byteAt b 40 = byteAt (bool1 s.planPending) 0 := h.byteAt_eq (i := 3) (by simp)
  rw [hengine, hpending]
  exact ⟨(h.half_eq (i := 0) (by simp)).trans (half_num2 _), bool1_eq_one _, bool1_eq_one _⟩

/-! The request. -/

/-- STATUS-READ passes for every bound link, in every line phase and whatever the freeze (R149 to R151). -/
theorem State.screen_statusRead (h : s.plan[l] ≠ .unbound) : s.screen l .statusRead [] = none :=
  State.screen_passes rfl (bne_iff_ne.2 h) rfl (.inr rfl)

theorem exec_statusRead (h : s.Attends l) (hbound : s.plan[l] ≠ .unbound) :
    exec (.statusRead l []) s = .next (s.answered l 0x02 .done s.statusBytes) :=
  congrArg _ (State.serve_answers h (State.screen_statusRead hbound) rfl)

/-- Settles O18: the answer is cut into its parts, and each is read where it begins. -/
theorem statusReadShowsTheLine : Obligations.StatusReadShowsTheLine := by
  unfold Obligations.StatusReadShowsTheLine
  intro s l attends hbound
  obtain ⟨hhead, hchange, hservice, htrackers, halerts, henroll, hstore⟩ := statusBytes_parts s
  obtain ⟨hphase, hepoch, hactive, hgen⟩ := status_head hhead
  obtain ⟨hfrozen, hflags⟩ := status_alerts halerts
  refine ⟨s.statusBytes, exec_statusRead attends hbound, statusBytes_length s, hphase, hepoch, hactive, hgen,
    fun c h => ?_, fun c m h => ?_, fun c h => ?_, fun h j => ?_, fun kept ret g h => ?_, fun h j => ?_,
    status_trackers htrackers, hfrozen, hflags, fun c => status_enroll henroll, status_no_enroll henroll,
    status_store hstore⟩
  · obtain ⟨settle, heq⟩ := changeoverBytes_of_changeover h
    rw [heq] at hchange
    exact status_context hchange.left
  · rw [h, changeoverBytes_changeover] at hchange
    exact (status_settle hchange rfl).trans (half_num2 _)
  · rw [h, changeoverBytes_stalled] at hchange
    exact (status_settle hchange rfl).trans (by decide)
  · rw [changeoverBytes_of_no_changeover h] at hchange
    exact hchange.zeros_eq
  · rw [h] at hservice
    exact status_service hservice
  · rw [serviceBytes_of_no_service h] at hservice
    exact hservice.zeros_eq

end Sys2Proof.Machine
end

/-! ## What a byte names in the requests on a format, read back (R21, R164) -/

section
namespace Sys2Proof.Machine

variable {s : State} {l : LinkId} {f : FormatNo} {b : Byte} {c : EnrollContext}

theorem formatOf_eq_some (h : formatOf b = some f) : b.toNat = f.val := by
  unfold formatOf at h
  split at h
  · cases h
    rfl
  · cases h

theorem storableOf_eq_some (h : storableOf b = some f) : f ≠ 0 ∧ b.toNat = f.val := by
  unfold storableOf at h
  obtain ⟨hb, hf⟩ := Option.filter_eq_some_iff.1 h
  exact ⟨by simpa using hf, formatOf_eq_some hb⟩

/-- A request that reaches the context is its owner's, on the context's format (R21). -/
theorem reachContext_ok (h : s.reachContext l b = .ok c) :
    s.enroll = some c ∧ c.format ≠ 0 ∧ c.owner = l ∧ b.toNat = c.format.val := by
  unfold State.reachContext at h
  split at h
  · cases h
  · rename_i f hf
    split at h
    · cases h
    · rename_i x hx
      split at h
      · rename_i hc
        cases h
        obtain ⟨rfl, rfl⟩ := hc
        obtain ⟨hne, hb⟩ := storableOf_eq_some hf
        exact ⟨hx, hne, rfl, hb⟩
      · cases h

end Sys2Proof.Machine
end

/-! ## All a step can do to the reference store, the context, the engine and the roles of the line

The invariants of the store and of the line's roles are read from the nine parts below. Most commands leave them; the others
change them by the moves below, and every such invariant is proved move by move. -/

section
namespace Sys2Proof.Machine

/-- Stage, line plan, format table, free count, record areas, engine, enrollment context, line and active format. -/
def State.ledger (s : State) : Stage × Plan × Vector FormatRecord 32 × Nat × Vector FormatArea 32 × Option Operation ×
    Option EnrollContext × Line × FormatNo :=
  (s.stage, s.plan, s.formats, s.poolFree, s.areas, s.engine, s.enroll, s.line, s.active)

theorem State.ledger_eq_iff {s t : State} : t.ledger = s.ledger ↔
    t.stage = s.stage ∧ t.plan = s.plan ∧ t.formats = s.formats ∧ t.poolFree = s.poolFree ∧ t.areas = s.areas ∧
      t.engine = s.engine ∧ t.enroll = s.enroll ∧ t.line = s.line ∧ t.active = s.active := by
  simp [State.ledger]

/-- The table is cleared at the beginning of the scan (R18). -/
def State.cleared (s : State) : State :=
  { s with stage := .scanning, formats := Vector.replicate 32 FormatRecord.blank, poolFree := poolSize }

/-- A stored record comes back and takes its entries from the pool (R18). -/
def State.restore (f : FormatNo) (r : SealedRecord) (s : State) : State :=
  { s.setFmt f r.restored with poolFree := s.poolFree - r.restored.entryCount }

/-- The record of the context's format has a new content, the free count a new value, the idle timer its full time (R22). -/
def State.edit (c : EnrollContext) (r : FormatRecord) (free : Nat) (s : State) : State :=
  { (s.setFmt c.format r).restartIdle c with poolFree := free }

/-- What an edit of a record keeps: its state, sound lists, fields in range, and the sum of its entries and the free ones. -/
structure Edits (s : State) (old new : FormatRecord) (free : Nat) : Prop where
  state : new.state = old.state
  lists : ListsSound old.lists → ListsSound new.lists
  fields : FieldsInRange old.tag old.settle old.interval → FieldsInRange new.tag new.settle new.interval
  entries : free + new.entryCount = s.poolFree + old.entryCount

/-- One change of the nine parts. -/
inductive LedgerMove : State → State → Prop
  /-- They are left alone. -/
  | same {s t : State} (h : t.ledger = s.ledger) : LedgerMove s t
  /-- A millisecond of the timers. -/
  | millisecond {s : State} : LedgerMove s s.age
  /-- Every block takes its reset value while RESET_N is low (R17). -/
  | reset {s : State} : LedgerMove s { s.resetBlocks with stage := .held }
  /-- The scan begins (R18). -/
  | clear {s : State} (hs : s.stage = .held) : LedgerMove s s.cleared
  /-- The scan restores a record that fits, under a number that is still blank (R18). -/
  | restore {s : State} (f : FormatNo) (r : SealedRecord) (hs : s.stage = .scanning) (hf : f ≠ 0)
      (ha : s.areas[f] = .sealed r) (hr : r.restored.entryCount ≤ s.poolFree) (hblank : s.fmt f = FormatRecord.blank) :
      LedgerMove s (s.restore f r)
  /-- The scan ends with a legal plan in force (R19). -/
  | scanEnd {s : State} (plan : Plan) (hs : s.stage = .scanning) (h : plan.Legal) :
      LedgerMove s { s with stage := .running, plan := plan }
  /-- A record area is written; the only sealed record written is that of the seal in flight (R13, R14, R18). -/
  | area {s : State} (f : FormatNo) (a : FormatArea)
      (h : ∀ r, a = .sealed r → r = s.recordToSeal f ∧ ∃ l, s.engine = some { job := .seal f, claimant := l }) :
      LedgerMove s (s.setArea f a)
  /-- An EMPTY number is opened (R23). -/
  | opens {s : State} (l : LinkId) (f : FormatNo) (kind : FormatKind) (hs : s.stage = .running) (hf : f ≠ 0)
      (he : s.enroll = none) (hempty : (s.fmt f).state = .empty) : LedgerMove s (s.openFormat l f kind)
  /-- The OPEN record is edited, or read by its owner (R22, R26 to R28). -/
  | edit {s : State} (c : EnrollContext) (r : FormatRecord) (free : Nat) (hf : c.format ≠ 0) (he : s.enroll = some c)
      (ho : (s.fmt c.format).state ≠ .sealing) (h : Edits s (s.fmt c.format) r free) : LedgerMove s (s.edit c r free)
  /-- The record is being sealed (R29). -/
  | beginSeal {s : State} (l : LinkId) (c : EnrollContext) (hf : c.format ≠ 0) (he : s.enroll = some c)
      (hlist : ∃ k : SlotId, (s.fmt c.format).lists[k] ≠ []) (hidle : s.engine = none) : LedgerMove s (s.beginSeal l c)
  /-- The seal in flight succeeds (R31). -/
  | finishSeal {s : State} (f : FormatNo) (h : ∃ l, s.engine = some { job := .seal f, claimant := l }) :
      LedgerMove s (s.finishSeal f)
  /-- The seal in flight fails (R32). -/
  | failSeal {s : State} (f : FormatNo) (h : ∃ l, s.engine = some { job := .seal f, claimant := l }) :
      LedgerMove s (s.failSeal f)
  /-- The context's format is discarded while it is OPEN (R22, R33). -/
  | discard {s : State} (c : EnrollContext) (he : s.enroll = some c)
      (ho : (s.fmt c.format).state ≠ .sealing ∨ c.idle.isSome = true) : LedgerMove s (s.discard c)
  /-- An unpinned SEALED format is retired (R34). -/
  | retire {s : State} (l : LinkId) (f : FormatNo) (hf : f ≠ 0) (hsealed : (s.fmt f).state = .sealed)
      (hpin : s.pinned f = false) (hidle : s.engine = none) : LedgerMove s (s.beginRetire l f)
  /-- The engine is claimed for a plan write (R153). -/
  | claimPlan {s : State} (l : LinkId) (plan : Plan) (h : plan.Legal) (hidle : s.engine = none) :
      LedgerMove s (s.beginPlanWrite l plan)
  /-- The plan being written is in force (R15, R152). -/
  | takePlan {s : State} (plan : Plan) (h : ∃ l, s.engine = some { job := .planWrite plan, claimant := l }) :
      LedgerMove s (s.takePlan plan)
  /-- An operation other than a seal ends (R12). -/
  | release {s : State} (h : s.NoSeal) : LedgerMove s { s with engine := none }
  /-- The claiming link has broken (R12). -/
  | disown {s : State} (l : LinkId) : LedgerMove s { s with engine := s.engine.map (Operation.disown l) }
  /-- The line moves by its own rules, which keep the formats in its roles. -/
  | line {s : State} (line : Line) (n : FormatNo)
      (h : s.RolesSound → ({ s with line := line, active := n } : State).RolesSound) :
      LedgerMove s { s with line := line, active := n }

/-- Moves one after another. -/
abbrev State.LedgerTo (s t : State) : Prop := Relation.ReflTransGen LedgerMove s t

variable {s t : State}

theorem State.LedgerTo.of_same (h : t.ledger = s.ledger) : s.LedgerTo t := .single (.same h)

/-- What every move keeps, moves one after another keep. -/
theorem State.LedgerTo.keeps {P : State → Prop} (hP : ∀ s t, LedgerMove s t → P s → P t) (h : s.LedgerTo t)
    (hs : P s) : P t := by
  induction h with
  | refl => exact hs
  | tail _ hmove ih => exact hP _ _ hmove ih

end Sys2Proof.Machine
end

/-! ## What leaves the nine parts alone -/

section
namespace Sys2Proof.Machine

variable {s : State} {l : LinkId}

@[simp] theorem State.setBuffer_ledger (b : Buffer) : (s.setBuffer l b).ledger = s.ledger := rfl
@[simp] theorem State.setGen_ledger (n : FormatNo) (g : Word16) : (s.setGen n g).ledger = s.ledger := by
  simp [State.ledger]
@[simp] theorem State.raise_ledger (f : Flag) : (s.raise f).ledger = s.ledger := rfl
@[simp] theorem State.raiseIf_ledger (c : Bool) (f : Flag) : (s.raiseIf c f).ledger = s.ledger := by
  simp [State.ledger]
@[simp] theorem State.setPlanArea_ledger (i : PlanAreaId) (a : PlanArea) : (s.setPlanArea i a).ledger = s.ledger := by
  cases i <;> rfl
@[simp] theorem State.setVerdicts_ledger (f : SlotId → Verdict) : (s.setVerdicts f).ledger = s.ledger := by
  simp [State.ledger]
@[simp] theorem State.takeEvent_ledger (e : MonitorEvent) : (s.takeEvent e).ledger = s.ledger := by
  simp [State.ledger]
@[simp] theorem State.evalPermits_ledger : s.evalPermits.ledger = s.ledger := rfl

@[simp] theorem State.respondTo_ledger (c : Option LinkId) (r : Result) (b : List Byte) :
    (s.respondTo c r b).ledger = s.ledger := by
  cases c <;> rfl

@[simp] theorem State.startComparison_ledger : s.startComparison.ledger = s.ledger := by
  rw [State.startComparison_eq]
  split <;> rfl

@[simp] theorem State.queueVerification_ledger (v : Verification) : (s.queueVerification l v).ledger = s.ledger :=
  State.startComparison_ledger

@[simp] theorem State.cancelManifest_ledger : (s.cancelManifest l).ledger = s.ledger := by
  rw [State.cancelManifest_frame]
  rfl

theorem State.degrade_ledger (k : SlotId) (verdict : Verdict) (timer : Option Nat) (f : Flag) (e : MonitorEvent) :
    (s.degrade k verdict timer f e).ledger = s.ledger := by
  simp only [State.degrade, State.evalPermits_ledger, State.takeEvent_ledger, State.raise_ledger]
  rfl

theorem State.recorded_ledger (v : Verification) (seq : List ClassRecord) : (s.recorded v seq).ledger = s.ledger := by
  simp [State.ledger, State.recorded]

@[simp] theorem State.planSteps_ledger (plan : Plan) (n : Nat) : (s.planSteps plan n).ledger = s.ledger := by
  unfold State.planSteps
  split <;> simp

@[simp] theorem State.scanErase_ledger (i : PlanAreaId) (fails : Bool) : (s.scanErase i fails).ledger = s.ledger := by
  unfold State.scanErase
  split <;> simp

@[simp] theorem State.scanPlanArea_ledger (i : PlanAreaId) (fails : Bool) :
    (s.scanPlanArea i fails).ledger = s.ledger := by
  unfold State.scanPlanArea
  split <;> simp

/-- The millisecond's events wait in the queue, which is none of the nine parts. -/
theorem State.idleStep_ledger : s.idleStep.ledger = s.age.ledger := rfl

/-- A read restarts at most the idle timer of its owner's OPEN format (R22). -/
theorem State.readRestarts_ledger (f : FormatNo) : s.LedgerTo (s.readRestarts l f) := by
  unfold State.readRestarts
  split
  · rename_i c he
    split
    · rename_i h
      obtain ⟨rfl, -, ho⟩ := h
      have hf : c.format ≠ 0 := fun e => by simp [e, FormatRecord.f0] at ho
      have hedit : s.edit c (s.fmt c.format) s.poolFree = s.restartIdle c := by
        simp [State.edit, State.setFmt, State.restartIdle, hf, s.fmt_of_ne hf]
      exact hedit ▸ .single (.edit c _ _ hf he (by simp [ho]) ⟨rfl, id, id, rfl⟩)
    · exact .refl
  · exact .refl

end Sys2Proof.Machine
end

/-! ## The move that each owning block of the store and the enrollment unit makes -/

section
namespace Sys2Proof.Machine

variable {s t : State} {l : LinkId} {k : ReqKind} {p : List Byte} {c : EnrollContext}

/-- A record with one list replaced. -/
def FormatRecord.withList (r : FormatRecord) (k : SlotId) (xs : List RefEntry) : FormatRecord :=
  { r with lists := r.lists.set k xs }

theorem FormatRecord.withList_list (r : FormatRecord) (k j : SlotId) (xs : List RefEntry) :
    (r.withList k xs).lists[j] = if j = k then xs else r.lists[j] := by
  by_cases h : j = k
  · subst h
    simp [FormatRecord.withList]
  · have : k.val ≠ j.val := fun e => h (Fin.ext e.symm)
    simp [FormatRecord.withList, h, this]

theorem sum_set_add_getElem (xs : List Nat) (i : Nat) (hi : i < xs.length) (a : Nat) :
    (xs.set i a).sum + xs[i] = xs.sum + a := by
  induction xs generalizing i with
  | nil => cases hi
  | cons x xs ih =>
    cases i with
    | zero => simp only [List.set_cons_zero, List.sum_cons, List.getElem_cons_zero]; omega
    | succ i =>
      have := ih i (Nat.lt_of_succ_lt_succ hi)
      simp only [List.set_cons_succ, List.sum_cons, List.getElem_cons_succ]
      omega

theorem FormatRecord.withList_entryCount (r : FormatRecord) (k : SlotId) (xs : List RefEntry) :
    (r.withList k xs).entryCount + r.lists[k].length = r.entryCount + xs.length := by
  have key := sum_set_add_getElem (r.lists.toList.map List.length) k.val (by simp) xs.length
  simpa [FormatRecord.entryCount, FormatRecord.withList, Vector.toList_set, List.map_set] using key

theorem ListsSound.withList {r : FormatRecord} (h : ListsSound r.lists) {k : SlotId} {xs : List RefEntry}
    (hx : ListSound xs) (hb : ∀ e ∈ xs, e.value.bandSound) : ListsSound (r.withList k xs).lists := by
  intro j
  rw [FormatRecord.withList_list]
  split
  · exact ⟨hx, hb⟩
  · exact h j

/-! The values a request brings (R5, R25, R28). -/

/-- The limits computed from a nominal of 32 bits stand on both sides of it (R44). -/
theorem tunableValue_bandSound {n : Int} (hn : -2147483648 ≤ n ∧ n ≤ 2147483647) (blo bhi floor : Nat) :
    (tunableValue n blo bhi floor).bandSound := by
  simp only [tunableValue, RefValue.bandSound, lowerLimit, upperLimit, int32Min, int32Max]
  omega

theorem refValueOf_bandSound {value : RefValue} (h : refValueOf p = some value) : value.bandSound := by
  unfold refValueOf at h
  split at h
  · cases h
    trivial
  · split at h
    · cases h
      have hlow := BitVec.le_toInt (quad p 6)
      have hhigh := BitVec.toInt_lt (x := quad p 6)
      exact tunableValue_bandSound ⟨by simpa using hlow, by omega⟩ _ _ _
    · cases h

theorem insertEntry_mem {e x : RefEntry} {xs : List RefEntry} : x ∈ insertEntry e xs ↔ x = e ∨ x ∈ xs := by
  obtain ⟨before, after, rfl, hins, -⟩ := insertEntry_place e xs
  simp only [hins, List.mem_append, List.mem_cons]
  tauto

/-- A new entry enters a list that has room for it (R6, R26). -/
theorem ListSound.insertEntry {xs : List RefEntry} (h : ListSound xs) {e : RefEntry} (hroom : xs.length < 256)
    (hid : e.id ≠ 0) (hnew : ∀ x ∈ xs, x.id ≠ e.id) : ListSound (insertEntry e xs) := by
  obtain ⟨-, hasc, hne⟩ := h
  refine ⟨by rw [insertEntry_length]; omega, insertEntry_ascending e xs hasc hnew, fun x hx => ?_⟩
  rcases insertEntry_mem.1 hx with rfl | hx
  · exact hid
  · exact hne x hx

theorem ListSound.sublist {xs ys : List RefEntry} (h : ListSound xs) (hsub : ys.Sublist xs) : ListSound ys :=
  ⟨hsub.length_le.trans h.1, h.2.1.sublist hsub, fun e he => h.2.2 e (hsub.subset he)⟩

/-! The edits of the OPEN record (R26 to R28). -/

theorem addEntry_edits {r : FormatRecord} {j : SlotId} {e : RefEntry} (hroom : r.lists[j].length < 256) (hid : e.id ≠ 0)
    (hnew : ∀ x ∈ r.lists[j], x.id ≠ e.id) (hpool : s.poolFree ≠ 0) (hband : e.value.bandSound) :
    Edits s r (r.withList j (insertEntry e r.lists[j])) (s.poolFree - 1) := by
  refine ⟨rfl, fun h => h.withList ((h j).1.insertEntry hroom hid hnew) fun x hx => ?_, id, ?_⟩
  · rcases insertEntry_mem.1 hx with rfl | hx
    · exact hband
    · exact (h j).2 x hx
  · have := r.withList_entryCount j (insertEntry e r.lists[j])
    rw [insertEntry_length] at this
    omega

theorem dropEntry_edits {r : FormatRecord} {j : SlotId} {id : Word16} (hhas : ∃ x ∈ r.lists[j], x.id = id) :
    Edits s r (r.withList j (r.lists[j].eraseP (fun x => x.id == id))) (s.poolFree + 1) := by
  have hsub : (r.lists[j].eraseP (fun x => x.id == id)).Sublist r.lists[j] := List.eraseP_sublist
  refine ⟨rfl, fun h => h.withList ((h j).1.sublist hsub) fun x hx => (h j).2 x (hsub.subset hx), fun h => h, ?_⟩
  obtain ⟨x, hx, hid⟩ := hhas
  have hlen := List.length_eraseP_of_mem hx (p := fun x => x.id == id) (by simpa using hid)
  have hpos := List.length_pos_of_mem hx
  have := r.withList_entryCount j (r.lists[j].eraseP (fun x => x.id == id))
  omega

theorem setFields_edits {r : FormatRecord} {sent : Nat} {interval : Byte} (hlen : (byteAt p 1).toNat ≤ 12)
    (hprint : ∀ b ∈ tagOf p, printable b = true) :
    Edits s r { r with tag := tagOf p, settle := storedSettle sent, interval := storedInterval interval.toNat }
      s.poolFree := by
  refine ⟨rfl, id, fun _ => ?_, rfl⟩
  have hprint' : ∀ b ∈ tagOf p, 0x20 ≤ b.toNat ∧ b.toNat ≤ 0x7E := by simpa [printable] using hprint
  obtain ⟨hlow, hhigh, hstep⟩ := storedSettle_range sent
  have htag : (tagOf p).length ≤ 12 := (List.length_take_le ..).trans hlen
  exact ⟨htag, hprint', hlow, hhigh, hstep, storedInterval_range interval⟩

theorem setFields_eq_edit (hf : c.format ≠ 0) (tag : List Byte) (settle interval : Nat) :
    s.setFields c tag settle interval =
      s.edit c { s.fmt c.format with tag := tag, settle := settle, interval := interval } s.poolFree := by
  simp only [State.setFields, State.edit, State.setFmt, if_neg hf]
  rfl

/-! Each owning block. -/

theorem ownFormatOpen_ledger (hrun : s.stage = .running) : s.LedgerTo (ownFormatOpen l p s).1 := by
  unfold ownFormatOpen
  split
  · rename_i f kind hf _
    split
    · exact .refl
    · rename_i hbusy
      split
      · exact .refl
      · rename_i hempty
        obtain ⟨hfree, -⟩ : s.enroll = none ∧ s.planPending = false := by simpa using hbusy
        exact .single (.opens l f kind hrun (storableOf_eq_some hf).1 hfree (not_not.1 hempty))
  · exact .refl

theorem ownEntryAdd_ledger : s.LedgerTo (ownEntryAdd l p s).1 := by
  unfold ownEntryAdd
  split
  · exact .refl
  · rename_i c hc
    obtain ⟨he, hf, -, -⟩ := reachContext_ok hc
    split
    · exact .refl
    · rename_i ho
      split
      · rename_i j presence value _ _ hv
        split
        · exact .refl
        · rename_i hid
          split
          · exact .refl
          · rename_i hnew
            split
            · exact .refl
            · rename_i hroom
              split
              · exact .refl
              · rename_i hpool
                have hnew' := (holdsBlock_eq_false _ _).1 (Bool.eq_false_iff.2 hnew)
                have hroom' : (s.fmt c.format).lists[j].length < 256 := Nat.lt_of_not_le hroom
                exact .single (.edit c _ _ hf he ho
                  (addEntry_edits hroom' hid hnew' hpool (refValueOf_bandSound hv)))
      · exact .refl

theorem ownEntryDrop_ledger : s.LedgerTo (ownEntryDrop l p s).1 := by
  unfold ownEntryDrop
  split
  · exact .refl
  · rename_i c hc
    obtain ⟨he, hf, -, -⟩ := reachContext_ok hc
    split
    · exact .refl
    · rename_i ho
      split
      · exact .refl
      · split
        · exact .refl
        · split
          · rename_i hhas
            exact .single (.edit c _ _ hf he ho (dropEntry_edits ((holdsBlock_iff _ _).1 hhas)))
          · exact .refl

theorem ownFormatSet_ledger : s.LedgerTo (ownFormatSet l p s).1 := by
  unfold ownFormatSet
  split
  · exact .refl
  · rename_i c hc
    obtain ⟨he, hf, -, -⟩ := reachContext_ok hc
    split
    · exact .refl
    · rename_i ho
      split
      · exact .refl
      · rename_i htag
        rw [Bool.or_eq_true, not_or, decide_eq_true_iff, Nat.not_lt] at htag
        obtain ⟨hlen, hprint⟩ := htag
        simp only [setFields_eq_edit hf]
        exact .single (.edit c _ _ hf he ho (setFields_edits hlen (by simpa using hprint)))

/-- A format with a participant has a list that is not empty (R7). -/
theorem exists_list_of_participants {r : FormatRecord} (h : r.participants ≠ 0) : ∃ k : SlotId, r.lists[k] ≠ [] := by
  by_contra hnone
  refine h (BitVec.eq_of_getLsbD_eq fun i hi => ?_)
  have hout := mt (inSet_participants r ⟨i, hi⟩).1 fun hl => hnone ⟨_, hl⟩
  simpa [inSet] using hout

theorem ownFormatSeal_ledger : s.LedgerTo (ownFormatSeal l p s).1 := by
  unfold ownFormatSeal
  split
  · exact .refl
  · rename_i c hc
    obtain ⟨he, hf, -, -⟩ := reachContext_ok hc
    split
    · exact .refl
    · split
      · exact .refl
      · rename_i hparts
        split
        · exact .refl
        · rename_i hidle
          exact .single (.beginSeal l c hf he (exists_list_of_participants hparts) (by simpa using hidle))

theorem ownFormatDiscard_ledger : s.LedgerTo (ownFormatDiscard l p s).1 := by
  unfold ownFormatDiscard
  split
  · exact .refl
  · rename_i c hc
    split
    · exact .refl
    · rename_i ho
      exact .single (.discard c (reachContext_ok hc).1 (.inl ho))

theorem ownFormatRetire_ledger : s.LedgerTo (ownFormatRetire l p s).1 := by
  unfold ownFormatRetire
  split
  · exact .refl
  · rename_i f hf
    split
    · exact .refl
    · rename_i hsealed
      split
      · exact .refl
      · rename_i hpin
        split
        · exact .refl
        · rename_i hidle
          exact .single (.retire l f (storableOf_eq_some hf).1 (not_not.1 hsealed) (Bool.eq_false_iff.2 hpin)
            (by simpa using hidle))

theorem ownFormatRead_ledger : s.LedgerTo (ownFormatRead l p s).1 := by
  unfold ownFormatRead
  split
  · exact .refl
  · exact State.readRestarts_ledger _

theorem ownEntryRead_ledger : s.LedgerTo (ownEntryRead l p s).1 := by
  unfold ownEntryRead
  split
  · split
    · exact .refl
    · split
      · exact State.readRestarts_ledger _
      · exact State.readRestarts_ledger _
  · exact .refl

theorem ownPlanWrite_ledger : s.LedgerTo (ownPlanWrite l p s).1 := by
  unfold ownPlanWrite
  split
  · exact .refl
  · rename_i plan _
    split
    · exact .refl
    · rename_i hok
      split
      · exact .refl
      · split
        · exact .refl
        · rename_i hidle
          exact .single (.claimPlan l plan ((planOk_iff plan).1 (by simpa using hok)) (by simpa using hidle))

end Sys2Proof.Machine
end

/-! ## The moves of the line, and the formats in its roles (R95, R97 to R109, R116 to R123) -/

section
namespace Sys2Proof.Machine

variable {s t : State} {l : LinkId} {k : ReqKind} {p : List Byte} {c : Changeover} {f : FormatNo}

/-- The formats in the roles of a changeover, and its extensions. -/
def State.ChangeoverSound (s : State) (c : Changeover) : Prop :=
  s.Stores c.target .production ∧ c.origin = s.active ∧ c.extensions ≤ 3 ∧
    (s.active = 0 ∨ s.Stores s.active .production ∨ c.cause = .serviceReturn ∧ s.Stores s.active .service)

theorem phaseSound_changeover_iff (hc : s.line.changeover? = some c) : s.PhaseSound ↔ s.ChangeoverSound c := by
  unfold State.PhaseSound
  rcases Line.changeover?_eq_some.1 hc with ⟨m, hl⟩ | hl <;> rw [hl] <;> rfl

theorem phaseSound_noFormat_iff (hl : s.line = .noFormat) : s.PhaseSound ↔ s.active = 0 := by
  unfold State.PhaseSound
  rw [hl]

theorem phaseSound_run_iff (hl : s.line = .run) : s.PhaseSound ↔ s.Stores s.active .production := by
  unfold State.PhaseSound
  rw [hl]

theorem phaseSound_service_iff {kept : SlotSet} {ret : FormatNo} {g : Word16} (hl : s.line = .service kept ret g) :
    s.PhaseSound ↔ s.Stores s.active .service ∧ (ret = 0 ∨ s.Stores ret .production) := by
  unfold State.PhaseSound
  rw [hl]

/-- In RUN the active format is a SEALED production format; in NOFORMAT it is F0. -/
theorem PhaseSound.active_of_free (h : s.PhaseSound) (hl : s.line = .noFormat ∨ s.line = .run) :
    s.active = 0 ∨ s.Stores s.active .production := by
  rcases hl with hl | hl
  · exact .inl ((phaseSound_noFormat_iff hl).1 h)
  · exact .inr ((phaseSound_run_iff hl).1 h)

theorem stores_of_sealedAs {kind : FormatKind} (hf : f ≠ 0) (h : s.sealedAs f kind = true) : s.Stores f kind :=
  ⟨hf, (sealedAs_iff s f kind).1 h⟩

/-- What the line and the active format become, when that keeps the roles, is a move. -/
theorem State.LedgerTo.of_line {line : Line} {n : FormatNo}
    (h : s.RolesSound → ({ s with line := line, active := n } : State).RolesSound)
    (ht : t.ledger = ({ s with line := line, active := n } : State).ledger) : s.LedgerTo t :=
  (Relation.ReflTransGen.single (.line line n h)).tail (.same ht)

theorem standDown_ledger : s.LedgerTo s.standDown :=
  .of_line (line := .noFormat) (n := 0) (fun _ => ⟨rfl, fun _ => rfl⟩) (State.setVerdicts_ledger _)

/-- A changeover starts to a SEALED production format from a line whose active format may be left (R99, R123). -/
theorem startChangeover_ledger {cause : Cause} (hrun : s.stage = .running)
    (h : s.PhaseSound → s.Stores f .production ∧
      (s.active = 0 ∨ s.Stores s.active .production ∨ cause = .serviceReturn ∧ s.Stores s.active .service)) :
    s.LedgerTo (s.startChangeover f cause) := by
  refine .of_line (line := (s.startChangeover f cause).line) (n := s.active)
    (fun hr => ⟨(phaseSound_changeover_iff rfl).2 ?_, fun hs => absurd hrun hs⟩) (State.setVerdicts_ledger _)
  obtain ⟨htarget, hactive⟩ := h hr.1
  exact ⟨htarget, rfl, Nat.zero_le _, hactive⟩

theorem ownLineChange_ledger (hrun : s.stage = .running) (hp : s.line = .noFormat ∨ s.line = .run) :
    s.LedgerTo (ownLineChange p s).1 := by
  unfold ownLineChange
  split
  · exact .refl
  · rename_i f _
    split
    · split
      · exact standDown_ledger
      all_goals exact .refl
    · rename_i hf
      split
      · exact .refl
      · split
        · exact .refl
        · rename_i hsealed
          have hstores : s.Stores f .production := stores_of_sealedAs hf (by simpa using hsealed)
          exact startChangeover_ledger hrun fun h => ⟨hstores, (PhaseSound.active_of_free h hp).imp_right .inl⟩

/-- A changeover exists only while the part runs. -/
theorem running_of_changeover (h : s.RolesSound) (hc : s.line.changeover? = some c) : s.stage = .running := by
  by_contra hs
  rw [h.2 hs] at hc
  cases hc

/-- A new context for the same changeover, in CHANGEOVER or STALLED, keeps the roles. -/
theorem State.LedgerTo.of_context {c' : Changeover} {line : Line} (hc : s.line.changeover? = some c)
    (hnew : line.changeover? = some c') (h : s.ChangeoverSound c → s.ChangeoverSound c')
    (ht : t.ledger = ({ s with line := line } : State).ledger) : s.LedgerTo t := by
  refine .of_line (n := s.active) (fun hr => ⟨(phaseSound_changeover_iff hnew).2 ?_, fun hs => ?_⟩) ht
  · exact h ((phaseSound_changeover_iff hc).1 hr.1)
  · exact absurd (running_of_changeover hr hc) hs

theorem ownLineExtend_ledger : s.LedgerTo (ownLineExtend s).1 := by
  unfold ownLineExtend
  split
  · rename_i c hc
    unfold State.extend
    split
    · exact .refl
    · rename_i hlimit
      refine .of_context hc (c' := { c with extensions := c.extensions + 1 }) rfl (fun h => ?_) rfl
      obtain ⟨htarget, horigin, -, hactive⟩ := h
      exact ⟨htarget, horigin, Nat.lt_of_not_le hlimit, hactive⟩
  · exact .refl

theorem afterAbandon_ledger (hc : s.line.changeover? = some c) : s.LedgerTo (s.afterAbandon c) := by
  unfold State.afterAbandon
  split
  · rename_i h
    obtain ⟨hcause, horigin⟩ := h
    refine .of_line (line := .run) (n := c.origin) (fun hr => ⟨?_, fun hs => ?_⟩) (State.setVerdicts_ledger _)
    · obtain ⟨-, hactive, -, hstores⟩ := (phaseSound_changeover_iff hc).1 hr.1
      rw [← hactive] at hstores
      rcases hstores with h0 | hprod | ⟨hret, -⟩
      · exact absurd h0 horigin
      · exact hprod
      · exact absurd (hcause.symm.trans hret) (by decide)
    · exact absurd (running_of_changeover hr hc) hs
  · exact standDown_ledger

theorem ownLineAbandon_ledger : s.LedgerTo (ownLineAbandon s).1 := by
  unfold ownLineAbandon
  split
  · rename_i c hc
    exact (afterAbandon_ledger hc).tail (.same (State.takeEvent_ledger _))
  · exact .refl

theorem ownServiceEnter_ledger (hrun : s.stage = .running) (hp : s.line = .noFormat ∨ s.line = .run) :
    s.LedgerTo (ownServiceEnter p s).1 := by
  unfold ownServiceEnter
  split
  · rename_i f kept ret hf _ hret
    split
    · exact .refl
    · split
      · exact .refl
      · split
        · exact .refl
        · rename_i hsealed
          split
          · exact .refl
          · split
            · exact .refl
            · rename_i hreturn
              have hstores : s.Stores f .service :=
                stores_of_sealedAs (storableOf_eq_some hf).1 (by simpa using hsealed)
              refine .of_line (line := .service kept ret (s.genOf ret)) (n := f)
                (fun hr => ⟨⟨hstores, ?_⟩, fun hs => absurd hrun hs⟩) (State.setVerdicts_ledger _)
              by_cases h0 : ret = 0
              · exact .inl h0
              · cases hg : returnGiven p with
                | false =>
                  rw [hg, if_neg Bool.false_ne_true] at hret
                  cases hret
                  exact PhaseSound.active_of_free hr.1 hp
                | true =>
                  have hsealed' : s.sealedAs ret .production = true := by simpa [hg, h0] using hreturn
                  exact .inr (stores_of_sealedAs (s := s) h0 hsealed')
  · exact .refl

theorem ownServiceLeave_ledger (hrun : s.stage = .running) : s.LedgerTo (ownServiceLeave s).1 := by
  unfold ownServiceLeave
  split
  · rename_i ret _ hl
    unfold State.leaveService
    split
    · exact standDown_ledger
    · rename_i h0
      refine startChangeover_ledger hrun fun h => ?_
      obtain ⟨hactive, hreturn⟩ := (phaseSound_service_iff hl).1 h
      exact ⟨hreturn.resolve_left h0, .inr (.inr ⟨rfl, hactive⟩)⟩
  all_goals exact .refl

/-- A report, and the commit that may follow, move the line to the target or leave its formats (R103 to R105). -/
theorem commit_ledger (hc : s.line.changeover? = some c) {c' : Changeover} (htarget : c'.target = c.target) :
    s.LedgerTo (s.commit c') := by
  refine .of_line (line := .run) (n := c'.target) (fun hr => ⟨?_, fun hs => ?_⟩) rfl
  · exact htarget ▸ ((phaseSound_changeover_iff hc).1 hr.1).1
  · exact absurd (running_of_changeover hr hc) hs

/-- A report changes the ready set alone. -/
theorem Changeover.report_fields (c : Changeover) (j : SlotId) (ready : Bool) :
    c.report j ready = { c with ready := (c.report j ready).ready } := by
  unfold Changeover.report
  split <;> rfl

theorem timerOrReport_ledger (j : SlotId) (verdict : Verdict) : s.LedgerTo (s.timerOrReport j verdict) := by
  rcases Line.cases s.line with hl | hl | ⟨c, hc⟩
  · have hsame : s.timerOrReport j verdict = s := by
      unfold State.timerOrReport
      rw [hl]
    rw [hsame]
  · rw [State.timerOrReport_timer hl]
    exact .of_same rfl
  · have hfields := c.report_fields j verdict.releases
    rw [State.timerOrReport_report hc]
    split
    · exact commit_ledger hc (by rw [hfields])
    · exact .of_context hc (Line.withContext_changeover? hc) (fun h => by rw [hfields]; exact h) rfl

theorem applyResult_ledger (v : Verification) (seq : List ClassRecord) : s.LedgerTo (s.applyResult v seq) := by
  rw [applyResult_eq]
  have hrecorded : s.LedgerTo (s.recorded v seq) := .of_same (State.recorded_ledger v seq)
  refine (hrecorded.trans (timerOrReport_ledger v.slot (summaryOf v seq).verdict)).tail (.same ?_)
  rw [State.evalPermits_ledger, State.raiseIf_ledger]

/-! Each request, and each frame. -/

theorem restart_ledger : s.LedgerTo s.restart := standDown_ledger.tail (.same rfl)

/-- The phase check of a request that passes (R150). -/
theorem State.screen_phase (h : s.screen l k p = none) : phaseAdmits s.line s.plan[l] k = true := by
  unfold State.screen at h
  split at h
  · cases h
  · split at h
    · cases h
    · split at h
      · cases h
      · rename_i hphase
        simpa using hphase

theorem free_of_screen (hk : k ∈ [.lineChange, .serviceEnter]) (h : s.screen l k p = none) :
    s.line = .noFormat ∨ s.line = .run := by
  by_contra hline
  have hbusy := not_or.1 hline
  have hrefused := (phaseAdmits_iff s.line s.plan[l] k).2 (.inl ⟨hk, hbusy.1, hbusy.2⟩)
  rw [State.screen_phase h] at hrefused
  cases hrefused

theorem ownManifestEnd_ledger : (ownManifestEnd l s).1.ledger = s.ledger := by
  unfold ownManifestEnd
  split
  · split
    · rfl
    · split
      · rfl
      · split
        · exact State.queueVerification_ledger _
        · rfl
  · rfl

theorem ownBlock_ledger (hrun : s.stage = .running) (hpass : s.screen l k p = none) :
    s.LedgerTo (ownBlock l p k s).1 := by
  cases k with
  | ident | statusRead | planRead | monitorRead => exact .refl
  | slotRead | attentionClear | manifestBegin | manifestPart | monitorSet | tripClear =>
    refine .of_same ?_
    simp only [ownBlock, ownSlotRead, ownAttentionClear, ownManifestBegin, ownManifestPart, ownMonitorSet, ownTripClear]
    repeat' split
    all_goals rfl
  | manifestEnd => exact .of_same ownManifestEnd_ledger
  | lineChange => exact ownLineChange_ledger hrun (free_of_screen (by decide) hpass)
  | lineExtend => exact ownLineExtend_ledger
  | lineAbandon => exact ownLineAbandon_ledger
  | serviceEnter => exact ownServiceEnter_ledger hrun (free_of_screen (by decide) hpass)
  | serviceLeave => exact ownServiceLeave_ledger hrun
  | lineRestart => exact restart_ledger
  | formatOpen => exact ownFormatOpen_ledger hrun
  | entryAdd => exact ownEntryAdd_ledger
  | entryDrop => exact ownEntryDrop_ledger
  | formatSet => exact ownFormatSet_ledger
  | formatSeal => exact ownFormatSeal_ledger
  | formatDiscard => exact ownFormatDiscard_ledger
  | formatRetire => exact ownFormatRetire_ledger
  | formatRead => exact ownFormatRead_ledger
  | entryRead => exact ownEntryRead_ledger
  | planWrite => exact ownPlanWrite_ledger

theorem exec_requestCommand_ledger (h : exec (requestCommand l k p) s = .next t) : s.LedgerTo t := by
  rw [exec_requestCommand] at h
  cases h
  exact State.serve_keeps (P := s.LedgerTo) (fun _ _ _ hu => hu.tail (.same rfl))
    (fun u hu hrun hpass => hu.trans (ownBlock_ledger hrun hpass)) .refl

theorem exec_unknown_ledger {kind : Byte} (h : exec (.unknown l kind p) s = .next t) : s.LedgerTo t := by
  cases h
  refine .of_same ?_
  unfold State.take
  simp only
  repeat' split
  all_goals rfl

theorem takeFrame_ledger {kind : Byte} (h : takeFrame l kind p s = .next t) : s.LedgerTo t := by
  rw [takeFrame_eq] at h
  unfold commandOf at h
  split at h
  · exact exec_requestCommand_ledger h
  · exact exec_unknown_ledger h

end Sys2Proof.Machine
end

/-! ## The moves that each event makes, and all that a step can do to the nine parts -/

section
namespace Sys2Proof.Machine

variable {s t : State} {l : LinkId} {f : FormatNo}

theorem exec_characterReceived_ledger {ch : Byte} {stop : Bool} (h : exec (.characterReceived l ch stop) s = .next t) :
    s.LedgerTo t := by
  change execCharacterReceived l ch stop s = .next t at h
  unfold execCharacterReceived deliver checkFrame at h
  split at h
  · cases h
    exact .refl
  · split at h
    · split at h
      · cases h
        split
        · exact .of_same rfl
        · exact .refl
      · cases h
        exact .of_same rfl
      · split at h
        · cases h
          exact .of_same rfl
        · simp only at h
          split at h
          · exact takeFrame_ledger h
          · cases h
            exact .of_same rfl
    · cases h
      exact .of_same rfl

theorem exec_comparisonEnd_ledger (h : exec .comparisonEnd s = .next t) : s.LedgerTo t := by
  change execComparisonEnd s = .next t at h
  unfold execComparisonEnd at h
  split at h
  · cases h
    exact .refl
  · rename_i l _
    split at h
    · rename_i v _
      cases h
      cases ho : s.offer v (s.sequenceOf v) with
      | mk u r =>
        have hoffer : s.LedgerTo u := by
          unfold State.offer at ho
          split at ho
          · cases ho
            exact applyResult_ledger _ _
          · cases ho
            exact .refl
        refine hoffer.tail (.same ?_)
        simp only [State.endComparison, ho, State.startComparison_ledger]
        rfl
    all_goals
      cases h
      exact .of_same State.startComparison_ledger

theorem exec_presentationTimerExpiry_ledger {k : SlotId} (h : exec (.presentationTimerExpiry k) s = .next t) :
    s.LedgerTo t := by
  change execPresentationTimerExpiry k s = .next t at h
  unfold execPresentationTimerExpiry at h
  split at h
  case h_4 =>
    cases h
    exact .refl
  all_goals
    cases h
    exact .of_same (State.degrade_ledger ..)

theorem exec_settleTimerExpiry_ledger (h : exec .settleTimerExpiry s = .next t) : s.LedgerTo t := by
  change execSettleTimerExpiry s = .next t at h
  unfold execSettleTimerExpiry at h
  split at h
  · rename_i c hline
    cases h
    exact .of_context (c := c) (by rw [hline]; rfl) (line := .stalled c) rfl id (State.takeEvent_ledger _)
  all_goals
    cases h
    exact .refl

theorem exec_idleTimerExpiry_ledger (h : exec .idleTimerExpiry s = .next t) : s.LedgerTo t := by
  change execIdleTimerExpiry s = .next t at h
  unfold execIdleTimerExpiry at h
  split at h
  · rename_i he
    cases h
    exact .single (.discard _ he (.inr rfl))
  · cases h
    exact .refl

/-! The program engine (R12 to R15). -/

theorem setArea_ledger (f : FormatNo) {a : FormatArea} (ha : ∀ r, a ≠ .sealed r) : s.LedgerTo (s.setArea f a) :=
  .single (.area f a fun r h => absurd h (ha r))

theorem sealSteps_ledger (n : Nat) (h : ∃ l, s.engine = some { job := .seal f, claimant := l }) :
    s.LedgerTo (s.sealSteps f n) := by
  have hseal : s.LedgerTo (s.setArea f (.sealed (s.recordToSeal f))) :=
    .single (.area f _ fun r hr => ⟨by cases hr; rfl, h⟩)
  unfold State.sealSteps
  split
  · exact .refl
  · exact setArea_ledger f nofun
  · exact setArea_ledger f nofun
  · exact hseal
  · exact hseal.tail (.same rfl)

theorem retireSteps_ledger (n : Nat) : s.LedgerTo (s.retireSteps f n) := by
  unfold State.retireSteps
  split
  · exact .refl
  · exact setArea_ledger f nofun
  · exact setArea_ledger f nofun

theorem stopEngine_ledger (n : Nat) : s.LedgerTo (s.stopEngine n) := by
  unfold State.stopEngine
  split
  · rename_i f l he
    exact sealSteps_ledger n ⟨l, he⟩
  · exact retireSteps_ledger n
  · exact .of_same (State.planSteps_ledger _ n)
  · exact .refl

theorem sealSteps_engine (n : Nat) : (s.sealSteps f n).engine = s.engine := by
  unfold State.sealSteps
  split
  · rfl
  · exact State.setArea_engine ..
  · exact State.setArea_engine ..
  · exact State.setArea_engine ..
  · exact State.setArea_engine s f (.sealed (s.recordToSeal f))

theorem retireSteps_engine (n : Nat) : (s.retireSteps f n).engine = s.engine := by
  unfold State.retireSteps
  split
  · rfl
  · exact State.setArea_engine ..
  · exact State.setArea_engine ..

theorem exec_sealCompletion_ledger {o : SealOutcome} (h : exec (.sealCompletion o) s = .next t) : s.LedgerTo t := by
  change execSealCompletion o s = .next t at h
  unfold execSealCompletion at h
  split at h
  · rename_i f l he
    have hsteps := sealSteps_ledger (sealStepsKept o) ⟨l, he⟩
    have hflight : ∃ l, (s.sealSteps f (sealStepsKept o)).engine = some { job := .seal f, claimant := l } :=
      ⟨l, (sealSteps_engine _).trans he⟩
    split at h
    · cases h
      exact (hsteps.tail (.finishSeal f hflight)).tail (.same (by simp))
    · cases h
      exact (hsteps.tail (.failSeal f hflight)).tail (.same (by simp))
  · cases h
    exact .refl

/-- An operation that is no seal is none. -/
theorem noSeal_of_engine {o : Operation} (he : s.engine = some o) (ho : ∀ f, o.job ≠ .seal f) : s.NoSeal := by
  intro f l h
  rw [he] at h
  cases h
  exact ho f rfl

theorem exec_retireEraseCompletion_ledger {o : RetireOutcome} (h : exec (.retireEraseCompletion o) s = .next t) :
    s.LedgerTo t := by
  have ends (f : FormatNo) (n : Nat) {u : State} (he : s.NoSeal)
      (hu : u.ledger = ({ s.retireSteps f n with engine := none } : State).ledger) : s.LedgerTo u := by
    have he' : (s.retireSteps f n).NoSeal := fun g c => by rw [retireSteps_engine]; exact he g c
    exact ((retireSteps_ledger n).tail (.release he')).tail (.same hu)
  change execRetireEraseCompletion o s = .next t at h
  unfold execRetireEraseCompletion at h
  split at h
  · rename_i f _ he
    have hidle := noSeal_of_engine he nofun
    split at h
    · cases h
      exact ends f 2 hidle (by simp)
    · cases h
      exact ends f 1 hidle (by simp)
    · cases h
      exact ends f 0 hidle (by simp [State.retireSteps])
  · cases h
    exact .refl

theorem exec_planWriteCompletion_ledger {o : PlanOutcome} (h : exec (.planWriteCompletion o) s = .next t) :
    s.LedgerTo t := by
  change execPlanWriteCompletion o s = .next t at h
  unfold execPlanWriteCompletion at h
  split at h
  · rename_i plan l he
    have hsteps : (s.planSteps plan (planStepsKept o)).ledger = s.ledger := State.planSteps_ledger ..
    split at h
    · cases h
      have htaken : LedgerMove s (s.takePlan plan) := .takePlan plan ⟨l, he⟩
      have hended : LedgerMove (s.takePlan plan) { s.takePlan plan with engine := none } :=
        .release (noSeal_of_engine (s := s.takePlan plan) he nofun)
      refine ((Relation.ReflTransGen.single htaken).tail hended).tail (.same ?_)
      simp only [State.respondTo_ledger, State.raiseIf_ledger]
      simp only [State.ledger_eq_iff] at hsteps ⊢
      obtain ⟨h1, -, h3, h4, h5, -, h7, h8, h9⟩ := hsteps
      exact ⟨h1, rfl, h3, h4, h5, rfl, h7, h8, h9⟩
    · cases h
      refine (Relation.ReflTransGen.single (LedgerMove.release (noSeal_of_engine he nofun))).tail (.same ?_)
      simp only [State.respondTo_ledger, State.raise_ledger]
      simp only [State.ledger_eq_iff] at hsteps ⊢
      obtain ⟨h1, h2, h3, h4, h5, -, h7, h8, h9⟩ := hsteps
      exact ⟨h1, h2, h3, h4, h5, rfl, h7, h8, h9⟩
  · cases h
    exact .refl

/-! The scan and the resets (R17 to R19). -/

/-- What a visit of the scan leaves: the stage, and every record but its own. -/
theorem scanArea_keeps (fails : List FormatNo) (f : FormatNo) (s : State) :
    (s.scanArea fails f).stage = s.stage ∧ ∀ g, g ≠ f → (s.scanArea fails f).fmt g = s.fmt g := by
  rcases s.scanArea_cases fails f with ⟨-, e⟩ | ⟨r, -, -, e⟩ | ⟨-, -, e⟩
  · rw [e]
    exact ⟨rfl, fun _ _ => rfl⟩
  · rw [e]
    refine ⟨by simp, fun g hg => ?_⟩
    have hfmt : (s.setFmt f r.restored).fmt g = s.fmt g := by rw [State.setFmt_fmt, if_neg fun h => hg h.1]
    exact (State.fmt_congr (s := s.setFmt f r.restored) (by simp) g).trans hfmt
  · rw [e]
    split
    · exact ⟨rfl, fun _ _ => rfl⟩
    · exact ⟨by simp, fun g _ => State.fmt_congr (by simp) g⟩

/-- A visit of the scan to a blank number restores its record, erases its area, or leaves it (R18). -/
theorem scanArea_ledger (fails : List FormatNo) (hs : s.stage = .scanning) (hf : f ≠ 0)
    (hblank : s.fmt f = FormatRecord.blank) : s.LedgerTo (s.scanArea fails f) := by
  rcases s.scanArea_cases fails f with ⟨-, e⟩ | ⟨r, ha, hr, e⟩ | ⟨-, -, e⟩
  · rw [e]
  · rw [e]
    refine (Relation.ReflTransGen.single (LedgerMove.restore f r hs hf ha hr hblank)).tail (.same ?_)
    simp [State.ledger, State.restore]
  · rw [e]
    split
    · exact .of_same rfl
    · exact (setArea_ledger f (a := .blank) nofun).tail (.same rfl)

theorem scanAreas_ledger (fails fs : List FormatNo) (hnodup : fs.Nodup) (hs : s.stage = .scanning)
    (hblank : ∀ f ∈ fs, f ≠ 0 ∧ s.fmt f = FormatRecord.blank) : s.LedgerTo (fs.foldl (State.scanArea fails) s) := by
  induction fs generalizing s with
  | nil => exact .refl
  | cons f fs ih =>
    obtain ⟨hnew, hnodup⟩ := List.nodup_cons.1 hnodup
    obtain ⟨hstage, hothers⟩ := scanArea_keeps fails f s
    obtain ⟨hf, hblankf⟩ := hblank f (List.mem_cons_self ..)
    refine (scanArea_ledger fails hs hf hblankf).trans (ih hnodup (hstage.trans hs) fun g hg => ?_)
    obtain ⟨hg0, hgblank⟩ := hblank g (List.mem_cons_of_mem _ hg)
    exact ⟨hg0, (hothers g fun e => hnew (e ▸ hg)).trans hgblank⟩

theorem startUpScan_ledger (fails : List FormatNo) (hs : s.stage = .held) : s.LedgerTo (s.startUpScan fails) := by
  refine ((Relation.ReflTransGen.single (LedgerMove.clear hs)).tail (.same ?_)).trans
    (scanAreas_ledger fails _ (by decide) ?_ ?_)
  · exact State.raiseIf_ledger ..
  · exact State.raiseIf_stage ..
  · intro f hf
    have hne : f ≠ 0 := by
      rintro rfl
      exact absurd hf (by decide)
    refine ⟨hne, ?_⟩
    rw [State.fmt_of_ne _ hne, State.raiseIf_formats]
    simp

theorem exec_powerOn_ledger {n : Nat} {fails : List FormatNo} (h : exec (.powerOn n fails) s = .next t) :
    s.LedgerTo t := by
  have hstage : (s.stopEngine n).stage = s.stage := by rw [State.stopEngine_frame]
  have hreset := (stopEngine_ledger (s := s) n).tail .reset
  change execPowerOn n fails s = .next t at h
  unfold execPowerOn at h
  simp only at h
  split at h
  · rename_i hs
    obtain rfl := Host.Outcome.next.inj h
    refine hreset.tail (.same ?_)
    simp [State.ledger, State.resetBlocks, hstage, hs]
  all_goals
    obtain rfl := Host.Outcome.next.inj h
    let r : State :=
      { (s.stopEngine n).resetBlocks with stage := .held, residency := Vector.replicate 5 0, timebase := 0 }
    have hheld : s.LedgerTo r := hreset.tail (.same rfl)
    exact hheld.trans (startUpScan_ledger (s := r) fails rfl)

theorem exec_pinReset_ledger {n : Nat} (h : exec (.pinReset n) s = .next t) : s.LedgerTo t := by
  cases h
  exact (stopEngine_ledger n).tail .reset

theorem exec_pinResetRelease_ledger {fails : List FormatNo} (h : exec (.pinResetRelease fails) s = .next t) :
    s.LedgerTo t := by
  change execPinResetRelease fails s = .next t at h
  unfold execPinResetRelease at h
  split at h
  · rename_i hs
    obtain rfl := Host.Outcome.next.inj h
    exact startUpScan_ledger fails hs
  all_goals
    cases h
    exact .refl

/-- The end of the scan chooses a legal plan, and leaves the other parts (R19). -/
theorem endScan_ledger (a b : Bool) (hs : s.stage = .scanning) : s.LedgerTo (s.endScan a b) := by
  have hareas : ((s.scanPlanArea .a a).scanPlanArea .b b).ledger = s.ledger := by simp
  have chosen (u : State) (plan : Plan) (i : Option PlanAreaId) (hu : u.ledger = s.ledger) :
      ({ u with plan := plan, planCurrent := i, stage := .running } : State).ledger =
        ({ s with stage := .running, plan := plan } : State).ledger := by
    obtain ⟨-, -, h3, h4, h5, h6, h7, h8, h9⟩ := State.ledger_eq_iff.1 hu
    exact State.ledger_eq_iff.2 ⟨rfl, rfl, h3, h4, h5, h6, h7, h8, h9⟩
  refine (Relation.ReflTransGen.single
    (LedgerMove.scanEnd _ hs (choosePlan_legal s.planA s.planB))).tail (.same (chosen _ _ _ ?_))
  split
  · exact (State.raiseIf_ledger ..).trans ((State.scanErase_ledger ..).trans hareas)
  · exact hareas

theorem exec_scanEnd_ledger {a b : Bool} (h : exec (.scanEnd a b) s = .next t) : s.LedgerTo t := by
  change execScanEnd a b s = .next t at h
  unfold execScanEnd at h
  split at h
  · rename_i hs
    cases h
    exact endScan_ledger a b hs
  all_goals
    cases h
    exact .refl

theorem exec_linkBreak_ledger (h : exec (.linkBreak l) s = .next t) : s.LedgerTo t := by
  change execLinkBreak l s = .next t at h
  unfold execLinkBreak at h
  split at h
  · cases h
    exact .refl
  · cases h
    exact (Relation.ReflTransGen.single (LedgerMove.disown l)).tail (.same State.cancelManifest_ledger)

theorem exec_frameGapTimeout_ledger (h : exec (.frameGapTimeout l) s = .next t) : s.LedgerTo t := by
  cases h
  split
  · exact .of_same rfl
  · exact .refl

/-- All a command can do to the nine parts. -/
theorem exec_ledger {i : Instr} (h : exec i s = .next t) : s.LedgerTo t := by
  cases hreq : i.request? with
  | some request =>
    obtain ⟨l, k, p⟩ := request
    rw [request_eq_requestCommand hreq] at h
    exact exec_requestCommand_ledger h
  | none =>
    cases i with
    | powerOn n fails => exact exec_powerOn_ledger h
    | pinReset n => exact exec_pinReset_ledger h
    | pinResetRelease fails => exact exec_pinResetRelease_ledger h
    | scanEnd a b => exact exec_scanEnd_ledger h
    | linkBreak l => exact exec_linkBreak_ledger h
    | frameGapTimeout l => exact exec_frameGapTimeout_ledger h
    | unknown l kind p => exact exec_unknown_ledger h
    | comparisonEnd => exact exec_comparisonEnd_ledger h
    | presentationTimerExpiry k => exact exec_presentationTimerExpiry_ledger h
    | settleTimerExpiry => exact exec_settleTimerExpiry_ledger h
    | idleTimerExpiry => exact exec_idleTimerExpiry_ledger h
    | sealCompletion o => exact exec_sealCompletion_ledger h
    | retireEraseCompletion o => exact exec_retireEraseCompletion_ledger h
    | planWriteCompletion o => exact exec_planWriteCompletion_ledger h
    | characterReceived l ch stop => exact exec_characterReceived_ledger h
    | crcMismatch | transmitComplete | residencyTick | linkLineReturnsHigh | rateStrapChange =>
      cases h
      exact .of_same rfl
    | _ => cases hreq

/-- All a step can do to the nine parts. -/
theorem step_ledger (h : step s = .next t) : s.LedgerTo t := by
  unfold step at h
  split at h
  · cases h
    exact (Relation.ReflTransGen.single LedgerMove.millisecond).tail (.same State.idleStep_ledger)
  · rename_i rest _
    have hpop : s.LedgerTo { s with pending := rest } := .of_same rfl
    exact hpop.trans (exec_ledger h)

end Sys2Proof.Machine
end

/-! ## One record of the table changes (R1) -/

section
namespace Sys2Proof.Machine

variable {s t : State} {f : FormatNo} {r : FormatRecord}

/-- `t` has the format table of `s` with the record of `f` replaced by `r`. -/
def State.Replaces (s t : State) (f : FormatNo) (r : FormatRecord) : Prop := t.formats = (s.setFmt f r).formats

theorem State.Replaces.fmt (h : s.Replaces t f r) (n : FormatNo) : t.fmt n = if n = f ∧ f ≠ 0 then r else s.fmt n :=
  (State.fmt_congr h n).trans (State.setFmt_fmt s f n r)

theorem State.Replaces.fmt_same (h : s.Replaces t f r) (hf : f ≠ 0) : t.fmt f = r := by
  rw [h.fmt, if_pos ⟨rfl, hf⟩]

theorem State.Replaces.fmt_of_ne (h : s.Replaces t f r) {n : FormatNo} (hn : n ≠ f) : t.fmt n = s.fmt n := by
  rw [h.fmt, if_neg fun e => hn e.1]

/-- What holds of every record, and of the new one, holds of every record afterwards. -/
theorem State.Replaces.forall (h : s.Replaces t f r) {P : FormatRecord → Prop} (hs : ∀ n, P (s.fmt n)) (hr : P r)
    (n : FormatNo) : P (t.fmt n) := by
  rw [h.fmt]
  split
  · exact hr
  · exact hs n

theorem State.Replaces.heldEntries (h : s.Replaces t f r) (hf : f ≠ 0) :
    t.heldEntries + (s.fmt f).entryCount = s.heldEntries + r.entryCount := by
  have hsame : t.heldEntries = (s.setFmt f r).heldEntries := by
    simp only [State.heldEntries, fun n => State.fmt_congr h n]
  rw [hsame, State.heldEntries_setFmt s f r hf]

theorem openFormat_replaces (l : LinkId) (kind : FormatKind) :
    s.Replaces (s.openFormat l f kind) f { FormatRecord.blank with kind := kind, state := .opened } := rfl
theorem edit_replaces (c : EnrollContext) (free : Nat) : s.Replaces (s.edit c r free) c.format r := rfl
theorem beginSeal_replaces (l : LinkId) (c : EnrollContext) :
    s.Replaces (s.beginSeal l c) c.format { s.fmt c.format with state := .sealing } := rfl
theorem finishSeal_replaces : s.Replaces (s.finishSeal f) f { s.fmt f with state := .sealed } := by
  simp [State.Replaces, State.finishSeal]
theorem failSeal_replaces : s.Replaces (s.failSeal f) f { s.fmt f with state := .opened } := rfl
theorem discard_replaces (c : EnrollContext) : s.Replaces (s.discard c) c.format FormatRecord.blank := rfl
theorem beginRetire_replaces (l : LinkId) : s.Replaces (s.beginRetire l f) f FormatRecord.blank := rfl
theorem restore_replaces (x : SealedRecord) : s.Replaces (s.restore f x) f x.restored := rfl

/-- A cleared table holds no entry. -/
theorem cleared_fmt (h : t.formats = Vector.replicate 32 FormatRecord.blank) (n : FormatNo) :
    t.fmt n = FormatRecord.f0 ∨ t.fmt n = FormatRecord.blank := by
  by_cases hn : n = 0
  · exact .inl (hn ▸ t.fmt_zero)
  · exact .inr (by rw [State.fmt_of_ne _ hn, h]; simp)

theorem cleared_heldEntries (h : t.formats = Vector.replicate 32 FormatRecord.blank) : t.heldEntries = 0 := by
  have hnone (n : FormatNo) : (t.fmt n).entryCount = 0 := by
    rcases cleared_fmt h n with e | e <;> rw [e] <;> decide
  simp [State.heldEntries, hnone]

end Sys2Proof.Machine
end

/-! ## The context's format is the only one OPEN or SEALING (R2, R20, R22, R29) -/

section
namespace Sys2Proof.Machine

variable {s t : State} {f : FormatNo} {c : EnrollContext}

theorem contextSound_none (he : s.enroll = none) : s.ContextSound ↔ s.NoSeal ∧ ∀ n : FormatNo, (s.fmt n).settled := by
  unfold State.ContextSound
  rw [he]

/-- The context's format is OPEN with its timer running and no seal in flight, or SEALING with its own seal in flight. -/
def State.ContextState (s : State) (c : EnrollContext) : Prop :=
  ((s.fmt c.format).state = .opened ∧ c.idle.isSome = true ∧ s.NoSeal) ∨
    ((s.fmt c.format).state = .sealing ∧ c.idle = none ∧ ∃ l, s.engine = some { job := .seal c.format, claimant := l })

theorem contextSound_some (he : s.enroll = some c) : s.ContextSound ↔
    s.stage = .running ∧ c.format ≠ 0 ∧ s.ContextState c ∧ ∀ n : FormatNo, n ≠ c.format → (s.fmt n).settled := by
  unfold State.ContextSound
  rw [he]
  rfl

theorem State.ContextSound.congr (h : s.ContextSound) (hs : t.stage = s.stage) (hf : t.formats = s.formats)
    (he : t.engine = s.engine) (hc : t.enroll = s.enroll) : t.ContextSound := by
  unfold State.ContextSound State.NoSeal at *
  simpa only [hs, he, hc, fun n => State.fmt_congr hf n] using h

theorem blank_settled : FormatRecord.blank.settled := .inl ⟨rfl, by decide⟩

/-- With the part not yet running there is no context, no format OPEN or SEALING, and no seal in flight. -/
theorem State.ContextSound.no_context (h : s.ContextSound) (hs : s.stage ≠ .running) : s.enroll = none := by
  cases he : s.enroll with
  | none => rfl
  | some c => exact absurd ((contextSound_some he).1 h).1 hs

/-- A seal in flight is that of the context's format, which is SEALING. -/
theorem State.ContextSound.of_seal (h : s.ContextSound)
    (hseal : ∃ l, s.engine = some { job := .seal f, claimant := l }) :
    ∃ c, s.enroll = some c ∧ c.format = f ∧ f ≠ 0 ∧ (s.fmt f).state = .sealing ∧ s.stage = .running ∧
      ∀ n : FormatNo, n ≠ f → (s.fmt n).settled := by
  obtain ⟨l, hl⟩ := hseal
  cases he : s.enroll with
  | none => exact absurd hl (((contextSound_none he).1 h).1 f l)
  | some c =>
    obtain ⟨hrun, hne, hstate, hothers⟩ := (contextSound_some he).1 h
    rcases hstate with ⟨-, -, hno⟩ | ⟨hsealing, -, l', hl'⟩
    · exact absurd hl (hno f l)
    · obtain rfl : c.format = f := by
        rw [hl] at hl'
        cases hl'
        rfl
      exact ⟨c, rfl, rfl, hne, hsealing, hrun, hothers⟩

/-- The context's format, when it is not SEALING, is OPEN with no seal in flight. -/
theorem State.ContextSound.of_open (h : s.ContextSound) (he : s.enroll = some c)
    (ho : (s.fmt c.format).state ≠ .sealing ∨ c.idle.isSome = true) :
    s.stage = .running ∧ c.format ≠ 0 ∧ (s.fmt c.format).state = .opened ∧ s.NoSeal ∧
      ∀ n : FormatNo, n ≠ c.format → (s.fmt n).settled := by
  obtain ⟨hrun, hne, hstate, hothers⟩ := (contextSound_some he).1 h
  rcases hstate with ⟨hopen, -, hno⟩ | ⟨hsealing, hidle, -⟩
  · exact ⟨hrun, hne, hopen, hno, hothers⟩
  · rcases ho with ho | ho
    · exact absurd hsealing ho
    · rw [hidle] at ho
      cases ho

/-- A SEALED format is not the context's. -/
theorem State.ContextSound.sealed_ne (h : s.ContextSound) (hf : (s.fmt f).state = .sealed) (he : s.enroll = some c) :
    f ≠ c.format := by
  rintro rfl
  obtain ⟨-, -, hstate, -⟩ := (contextSound_some he).1 h
  rcases hstate with ⟨hopen, -⟩ | ⟨hsealing, -⟩
  · exact absurd (hf.symm.trans hopen) (by decide)
  · exact absurd (hf.symm.trans hsealing) (by decide)

/-- One settled record replaced by another, with context and seals as they were. -/
theorem State.ContextSound.replace {r : FormatRecord} (h : s.ContextSound) (hrep : s.Replaces t f r)
    (hf : (s.fmt f).settled ∨ s.enroll = none) (hr : r.settled) (hs : t.stage = s.stage) (hc : t.enroll = s.enroll)
    (hno : s.NoSeal → t.NoSeal) (hsame : ∀ g l, s.engine = some { job := .seal g, claimant := l } → t.engine = s.engine) :
    t.ContextSound := by
  cases he : s.enroll with
  | none =>
    obtain ⟨hnone, hall⟩ := (contextSound_none he).1 h
    exact (contextSound_none (hc.trans he)).2 ⟨hno hnone, hrep.forall hall hr⟩
  | some c =>
    have hf' : (s.fmt f).settled := hf.resolve_right (by simp [he])
    obtain ⟨hrun, hne, hstate, hothers⟩ := (contextSound_some he).1 h
    have hcf : c.format ≠ f := by
      rintro rfl
      rcases hstate with ⟨hopen, -⟩ | ⟨hsealing, -⟩ <;> rcases hf' with ⟨hempty, -⟩ | hsealed <;> simp_all
    refine (contextSound_some (hc.trans he)).2 ⟨hs.trans hrun, hne, ?_, fun n hn => ?_⟩
    · unfold State.ContextState
      rw [hrep.fmt_of_ne hcf]
      rcases hstate with ⟨hopen, hidle, hnone⟩ | ⟨hsealing, hidle, l, hl⟩
      · exact .inl ⟨hopen, hidle, hno hnone⟩
      · exact .inr ⟨hsealing, hidle, l, (hsame _ _ hl).trans hl⟩
    · rw [hrep.fmt]
      split
      · exact hr
      · exact hothers n hn

/-- The table cleared, with no context and no seal in flight. -/
theorem contextSound_cleared (hf : t.formats = Vector.replicate 32 FormatRecord.blank) (he : t.enroll = none)
    (hno : t.NoSeal) : t.ContextSound := by
  refine (contextSound_none he).2 ⟨hno, fun n => ?_⟩
  rcases cleared_fmt hf n with e | e <;> rw [e]
  · exact .inr rfl
  · exact blank_settled

theorem disown_seal_iff {l : LinkId} {e : Option Operation} {g : FormatNo} :
    (∃ m, e.map (Operation.disown l) = some { job := .seal g, claimant := m }) ↔
      ∃ m, e = some { job := .seal g, claimant := m } := by
  cases e with
  | none => simp
  | some o => cases o; simp [Operation.disown]

/-- The context's part changes: its timer, or the engine, with the context's format and the others as they were. -/
theorem State.ContextSound.retime {idle : EnrollContext → Option Nat} (h : s.ContextSound) (hs : t.stage = s.stage)
    (hf : t.formats = s.formats) (hc : t.enroll = s.enroll.map fun c => { c with idle := idle c })
    (hidle : ∀ c, (idle c).isSome = c.idle.isSome)
    (hseal : ∀ g, (∃ l, t.engine = some { job := .seal g, claimant := l }) ↔
      ∃ l, s.engine = some { job := .seal g, claimant := l }) : t.ContextSound := by
  have hno : s.NoSeal → t.NoSeal := fun hn g l hl => by
    obtain ⟨m, hm⟩ := (hseal g).1 ⟨l, hl⟩
    exact hn g m hm
  cases he : s.enroll with
  | none =>
    obtain ⟨hnone, hall⟩ := (contextSound_none he).1 h
    exact (contextSound_none (by rw [hc, he]; rfl)).2 ⟨hno hnone, fun n => State.fmt_congr hf n ▸ hall n⟩
  | some c =>
    obtain ⟨hrun, hne, hstate, hothers⟩ := (contextSound_some he).1 h
    refine (contextSound_some (c := { c with idle := idle c }) (by rw [hc, he]; rfl)).2
      ⟨hs.trans hrun, hne, ?_, fun n hn => State.fmt_congr hf n ▸ hothers n hn⟩
    unfold State.ContextState
    rw [State.fmt_congr hf]
    rcases hstate with ⟨hopen, hsome, hnone⟩ | ⟨hsealing, hnil, hl⟩
    · exact .inl ⟨hopen, (hidle c).trans hsome, hno hnone⟩
    · refine .inr ⟨hsealing, ?_, (hseal _).2 hl⟩
      have := hidle c
      rw [hnil] at this
      simpa using this

theorem LedgerMove.keeps_contextSound (hmove : LedgerMove s t) (h : s.ContextSound) : t.ContextSound := by
  have noSeal_of_idle {e : Option Operation} (he : s.engine = e) (hjob : ∀ f l, e ≠ some { job := .seal f, claimant := l }) :
      s.NoSeal := fun f l hl => hjob f l (he.symm.trans hl)
  cases hmove with
  | same ht =>
    obtain ⟨hs, -, hf, -, -, he, hc, -, -⟩ := State.ledger_eq_iff.1 ht
    exact h.congr hs hf he hc
  | millisecond =>
    exact h.retime (idle := fun c => countDown c.idle) rfl rfl rfl (fun c => by simp [countDown]) fun _ => Iff.rfl
  | reset => exact contextSound_cleared rfl rfl nofun
  | clear hs =>
    have he := h.no_context (by simp [hs])
    exact contextSound_cleared rfl he ((contextSound_none he).1 h).1
  | restore f r hs hf ha hr hblank =>
    exact h.replace (restore_replaces r) (.inr (h.no_context (by simp [hs]))) (.inr rfl) (State.setFmt_stage ..)
      (State.setFmt_enroll ..) (fun hn g l => (State.setFmt_engine s f r.restored) ▸ hn g l)
      fun _ _ _ => State.setFmt_engine ..
  | scanEnd plan hs hplan =>
    have he := h.no_context (by simp [hs])
    exact (contextSound_none (s := { s with stage := .running, plan := plan }) he).2 ((contextSound_none he).1 h)
  | area f a ha =>
    exact h.congr (State.setArea_stage ..) (State.setArea_formats ..) (State.setArea_engine ..) (State.setArea_enroll ..)
  | opens l f kind hs hf he hempty =>
    obtain ⟨hno, hall⟩ := (contextSound_none he).1 h
    have hrep := openFormat_replaces (s := s) (f := f) l kind
    have hstage : (s.openFormat l f kind).stage = s.stage := State.setFmt_stage ..
    have hengine : (s.openFormat l f kind).engine = s.engine := State.setFmt_engine ..
    refine (contextSound_some rfl).2 ⟨hstage.trans hs, hf, .inl ⟨?_, rfl, fun g m => hengine ▸ hno g m⟩, fun n hn => ?_⟩
    · simp only [hrep.fmt_same hf]
    · exact (hrep.fmt_of_ne hn) ▸ hall n
  | edit c r free hf he ho hedit =>
    obtain ⟨hrun, -, hopen, hno, hothers⟩ := h.of_open he (.inl ho)
    have hrep := edit_replaces (s := s) (r := r) c free
    have hstage : (s.edit c r free).stage = s.stage := State.setFmt_stage ..
    have hengine : (s.edit c r free).engine = s.engine := State.setFmt_engine ..
    refine (contextSound_some (c := { c with idle := some idleTime }) rfl).2
      ⟨hstage.trans hrun, hf, .inl ⟨?_, rfl, fun g m => hengine ▸ hno g m⟩, fun n hn => ?_⟩
    · simp only [hrep.fmt_same hf, hedit.state, hopen]
    · exact (hrep.fmt_of_ne hn) ▸ hothers n hn
  | beginSeal l c hf he hlist hidle =>
    obtain ⟨hrun, -, hstate, hothers⟩ := (contextSound_some he).1 h
    have hrep := beginSeal_replaces (s := s) l c
    have hstage : (s.beginSeal l c).stage = s.stage := State.setFmt_stage ..
    refine (contextSound_some (c := { c with idle := none }) rfl).2 ⟨hstage.trans hrun, hf, .inr ⟨?_, rfl, _, rfl⟩, fun n hn => ?_⟩
    · simp only [hrep.fmt_same hf]
    · exact (hrep.fmt_of_ne hn) ▸ hothers n hn
  | finishSeal f hseal =>
    obtain ⟨c, -, -, hf, -, -, hothers⟩ := h.of_seal hseal
    have hrep := finishSeal_replaces (s := s) (f := f)
    refine (contextSound_none rfl).2 ⟨nofun, fun n => ?_⟩
    rw [hrep.fmt]
    split
    · exact .inr rfl
    · rename_i hn
      exact hothers n fun e => hn ⟨e, hf⟩
  | failSeal f hseal =>
    obtain ⟨c, he, hcf, hf, -, hrun, hothers⟩ := h.of_seal hseal
    have hrep := failSeal_replaces (s := s) (f := f)
    have hstage : (s.failSeal f).stage = s.stage := State.setFmt_stage ..
    have henroll : (s.failSeal f).enroll = some { c with idle := some idleTime } := by simp [State.failSeal, he]
    refine (contextSound_some henroll).2 ⟨hstage.trans hrun, hcf ▸ hf, .inl ⟨?_, rfl, nofun⟩, fun n hn => ?_⟩
    · simp only [hcf, hrep.fmt_same hf]
    · rw [hcf] at hn
      exact (hrep.fmt_of_ne hn) ▸ hothers n hn
  | discard c he ho =>
    obtain ⟨-, hf, -, hno, hothers⟩ := h.of_open he ho
    have hrep := discard_replaces (s := s) c
    have hengine : (s.discard c).engine = s.engine := State.setFmt_engine ..
    refine (contextSound_none rfl).2 ⟨fun g m => hengine ▸ hno g m, fun n => ?_⟩
    rw [hrep.fmt]
    split
    · exact blank_settled
    · rename_i hn
      exact hothers n fun e => hn ⟨e, hf⟩
  | retire l f hf hsealed hpin hidle =>
    refine h.replace (beginRetire_replaces l) (.inl (.inr hsealed)) blank_settled (State.setFmt_stage ..)
      (State.setFmt_enroll ..) (fun _ => nofun) fun g m hm => ?_
    rw [hidle] at hm
    cases hm
  | claimPlan l plan hplan hidle =>
    refine h.retime (idle := EnrollContext.idle) rfl rfl (by simp [State.beginPlanWrite]) (fun _ => rfl) fun g => ?_
    simp [State.beginPlanWrite, hidle]
  | takePlan plan ho => exact h.congr rfl rfl rfl rfl
  | release hno =>
    refine h.retime (idle := EnrollContext.idle) rfl rfl (by simp) (fun _ => rfl) fun g => ?_
    simpa using hno g
  | disown l => exact h.retime (idle := EnrollContext.idle) rfl rfl (by simp) (fun _ => rfl) fun g => disown_seal_iff
  | line L n hl => exact h.congr rfl rfl rfl rfl

/-! ## Free and held entries always number 2048 (R8) -/

theorem State.PoolConserved.congr (h : s.PoolConserved) (hf : t.formats = s.formats) (hp : t.poolFree = s.poolFree) :
    t.PoolConserved := by
  unfold State.PoolConserved State.heldEntries at *
  simpa only [hp, fun n => State.fmt_congr hf n] using h

/-- One record is replaced and the free count takes up the difference. -/
theorem State.PoolConserved.replace {r : FormatRecord} (h : s.PoolConserved) (hrep : s.Replaces t f r) (hf : f ≠ 0)
    (hp : t.poolFree + r.entryCount = s.poolFree + (s.fmt f).entryCount) : t.PoolConserved := by
  have := hrep.heldEntries hf
  unfold State.PoolConserved at *
  omega

theorem poolConserved_cleared (hf : t.formats = Vector.replicate 32 FormatRecord.blank) (hp : t.poolFree = 2048) :
    t.PoolConserved := by
  unfold State.PoolConserved
  rw [cleared_heldEntries hf, hp]

theorem LedgerMove.keeps_poolConserved (hmove : LedgerMove s t) (hctx : s.ContextSound) (h : s.PoolConserved) :
    t.PoolConserved := by
  have blank_entries : FormatRecord.blank.entryCount = 0 := by decide
  cases hmove with
  | same ht =>
    obtain ⟨-, -, hf, hp, -⟩ := State.ledger_eq_iff.1 ht
    exact h.congr hf hp
  | millisecond | scanEnd | claimPlan | takePlan | release | disown | line => exact h.congr rfl rfl
  | reset => exact poolConserved_cleared rfl rfl
  | clear hs => exact poolConserved_cleared rfl rfl
  | area f a ha => exact h.congr (State.setArea_formats ..) (State.setArea_poolFree ..)
  | restore f r hs hf ha hr hblank =>
    refine h.replace (restore_replaces r) hf ?_
    rw [hblank, blank_entries]
    exact Nat.sub_add_cancel hr
  | opens l f kind hs hf he hempty =>
    have hnone : (s.fmt f).entryCount = 0 := by
      rcases ((contextSound_none he).1 hctx).2 f with ⟨-, h0⟩ | hsealed
      · exact h0
      · exact absurd (hempty.symm.trans hsealed) (by decide)
    have hpool : (s.openFormat l f kind).poolFree = s.poolFree := State.setFmt_poolFree ..
    exact h.replace (openFormat_replaces l kind) hf (by rw [hpool, hnone]; rfl)
  | edit c r free hf he ho hedit => exact h.replace (edit_replaces c free) hf hedit.entries
  | beginSeal l c hf he hlist hidle =>
    have hpool : (s.beginSeal l c).poolFree = s.poolFree := State.setFmt_poolFree ..
    exact h.replace (beginSeal_replaces l c) hf (by rw [hpool]; rfl)
  | finishSeal f hseal =>
    obtain ⟨-, -, -, hf, -⟩ := hctx.of_seal hseal
    have hpool : (s.finishSeal f).poolFree = s.poolFree := (State.setGen_poolFree ..).trans (State.setFmt_poolFree ..)
    exact h.replace finishSeal_replaces hf (by rw [hpool]; rfl)
  | failSeal f hseal =>
    obtain ⟨-, -, -, hf, -⟩ := hctx.of_seal hseal
    have hpool : (s.failSeal f).poolFree = s.poolFree := State.setFmt_poolFree ..
    exact h.replace failSeal_replaces hf (by rw [hpool]; rfl)
  | discard c he ho =>
    exact h.replace (discard_replaces c) (hctx.of_open he ho).2.1 (by rw [blank_entries]; rfl)
  | retire l f hf => exact h.replace (beginRetire_replaces l) hf (by rw [blank_entries]; rfl)

/-- Settles O54, move by move over the nine parts. -/
theorem entriesAreConserved : Obligations.EntriesAreConserved := by
  unfold Obligations.EntriesAreConserved
  intro s t hpool hctx hstep
  exact (step_ledger hstep).keeps (P := fun s => s.PoolConserved ∧ s.ContextSound)
    (fun _ _ hmove h => ⟨hmove.keeps_poolConserved h.2 h.1, hmove.keeps_contextSound h.2⟩) ⟨hpool, hctx⟩

end Sys2Proof.Machine
end

/-! ## What holds of the stored records: areas and records under a move (R11, R13, R18) -/

section
namespace Sys2Proof.Machine

variable {s t : State} {f : FormatNo}

/-- A property of every record of the table, and one of every sealed record in storage. -/
def State.RecordsSatisfy (s : State) (P : FormatRecord → Prop) (Q : SealedRecord → Prop) : Prop :=
  (∀ n : FormatNo, P (s.fmt n)) ∧ ∀ (n : FormatNo) (r : SealedRecord), s.areas[n] = .sealed r → Q r

/-- A property of the lists and fields of a record, whatever its state: it holds of a blank record, goes with a record into
storage and out of it, and an edit keeps it. -/
structure OfContent (P : FormatRecord → Prop) (Q : SealedRecord → Prop) : Prop where
  blank : ∀ kind state, P { FormatRecord.blank with kind := kind, state := state }
  state : ∀ (r : FormatRecord) (state : FormatState), P r → P { r with state := state }
  restored : ∀ r : SealedRecord, Q r → P r.restored
  toSeal : ∀ (s : State) (f : FormatNo), P (s.fmt f) → Q (s.recordToSeal f)
  edit : ∀ (s : State) (old new : FormatRecord) (free : Nat), Edits s old new free → P old → P new

variable {P : FormatRecord → Prop} {Q : SealedRecord → Prop}

theorem State.RecordsSatisfy.congr (h : s.RecordsSatisfy P Q) (hf : t.formats = s.formats) (ha : t.areas = s.areas) :
    t.RecordsSatisfy P Q := by
  refine ⟨fun n => State.fmt_congr hf n ▸ h.1 n, fun n r hr => h.2 n r ?_⟩
  rwa [ha] at hr

theorem State.RecordsSatisfy.replace {r : FormatRecord} (h : s.RecordsSatisfy P Q) (hrep : s.Replaces t f r) (hr : P r)
    (ha : t.areas = s.areas) : t.RecordsSatisfy P Q := by
  refine ⟨hrep.forall h.1 hr, fun n r hr => h.2 n r ?_⟩
  rwa [ha] at hr

/-- An area reads as written; F0 has none (R11). -/
theorem State.setArea_area (s : State) (f n : FormatNo) (a : FormatArea) :
    (s.setArea f a).areas[n] = if n = f ∧ f ≠ 0 then a else s.areas[n] := by
  by_cases hf : f = 0
  · simp [State.setArea, hf]
  · by_cases hn : n = f
    · subst hn; simp [State.setArea, hf]
    · have : f.val ≠ n.val := fun e => hn (Fin.ext e.symm)
      simp [State.setArea, hf, hn, this]

theorem State.RecordsSatisfy.setArea {a : FormatArea} (h : s.RecordsSatisfy P Q) (ha : ∀ r, a = .sealed r → Q r) :
    (s.setArea f a).RecordsSatisfy P Q := by
  refine ⟨fun n => State.fmt_congr (State.setArea_formats s f a) n ▸ h.1 n, fun n r hr => ?_⟩
  rw [State.setArea_area] at hr
  split at hr
  · exact ha r hr
  · exact h.2 n r hr

theorem OfContent.cleared (hP : OfContent P Q) (hf : t.formats = Vector.replicate 32 FormatRecord.blank) (n : FormatNo) :
    P (t.fmt n) := by
  rcases cleared_fmt hf n with e | e <;> rw [e]
  · exact hP.blank .production .sealed
  · exact hP.blank .production .empty

/-- Every move keeps a property of the contents of records and stored records. -/
theorem LedgerMove.keeps_content (hP : OfContent P Q) (hmove : LedgerMove s t) (h : s.RecordsSatisfy P Q) :
    t.RecordsSatisfy P Q := by
  cases hmove with
  | same ht =>
    obtain ⟨-, -, hf, -, ha, -⟩ := State.ledger_eq_iff.1 ht
    exact h.congr hf ha
  | millisecond | scanEnd | claimPlan | takePlan | release | disown | line => exact h.congr rfl rfl
  | reset => exact ⟨hP.cleared rfl, h.2⟩
  | clear hs => exact ⟨hP.cleared rfl, h.2⟩
  | restore f r hs hf ha => exact h.replace (restore_replaces r) (hP.restored r (h.2 f r ha)) (State.setFmt_areas ..)
  | area f a ha =>
    refine h.setArea fun r hr => ?_
    obtain ⟨rfl, -⟩ := ha r hr
    exact hP.toSeal s f (h.1 f)
  | opens l f kind => exact h.replace (openFormat_replaces l kind) (hP.blank kind .opened) (State.setFmt_areas ..)
  | edit c r free hf he ho hedit =>
    exact h.replace (edit_replaces c free) (hP.edit s _ r free hedit (h.1 _)) (State.setFmt_areas ..)
  | beginSeal l c => exact h.replace (beginSeal_replaces l c) (hP.state _ .sealing (h.1 _)) (State.setFmt_areas ..)
  | finishSeal f =>
    exact h.replace finishSeal_replaces (hP.state _ .sealed (h.1 _))
      ((State.setGen_areas ..).trans (State.setFmt_areas ..))
  | failSeal f => exact h.replace failSeal_replaces (hP.state _ .opened (h.1 _)) (State.setFmt_areas ..)
  | discard c => exact h.replace (discard_replaces c) (hP.blank .production .empty) (State.setFmt_areas ..)
  | retire l f => exact h.replace (beginRetire_replaces l) (hP.blank .production .empty) (State.setFmt_areas ..)

end Sys2Proof.Machine
end

/-! ## Lists stay sound, fields stay in range, and a SEALED format keeps an entry (R1, R3, R5, R6, R44) -/

section
namespace Sys2Proof.Machine

variable {s t : State} {f : FormatNo}

theorem listsSound_nil : ListsSound (Vector.replicate 6 []) := by
  intro k
  simp [ListSound]

theorem lists_ofContent : OfContent (fun r => ListsSound r.lists) (fun r => ListsSound r.lists) where
  blank _ _ := listsSound_nil
  state _ _ := id
  restored _ := id
  toSeal _ _ := id
  edit _ _ _ _ hedit := hedit.lists

theorem fields_ofContent : OfContent (fun r => FieldsInRange r.tag r.settle r.interval)
    (fun r => FieldsInRange r.tag r.settle r.interval) where
  blank _ _ := by simp [FieldsInRange, FormatRecord.blank]
  state _ _ := id
  restored _ := id
  toSeal _ _ := id
  edit _ _ _ _ hedit := hedit.fields

/-- A record with a list that is not empty. -/
def FormatRecord.Holds (r : FormatRecord) : Prop := ∃ k : SlotId, r.lists[k] ≠ []

/-- A record that is SEALED or SEALING has a list that is not empty; the others need not. -/
def FormatRecord.HoldsWhenSealed (r : FormatRecord) : Prop := r.state = .sealed ∨ r.state = .sealing → r.Holds

theorem sealedHold_iff : s.SealedHold ↔ (∀ n : FormatNo, n ≠ 0 → (s.fmt n).HoldsWhenSealed) ∧
    ∀ (n : FormatNo) (r : SealedRecord), s.areas[n] = .sealed r → r.restored.Holds := Iff.rfl

theorem State.SealedHold.congr (h : s.SealedHold) (hf : t.formats = s.formats) (ha : t.areas = s.areas) :
    t.SealedHold := by
  rw [sealedHold_iff] at *
  refine ⟨fun n hn => State.fmt_congr hf n ▸ h.1 n hn, fun n r hr => h.2 n r ?_⟩
  rwa [ha] at hr

theorem State.SealedHold.replace {r : FormatRecord} (h : s.SealedHold) (hrep : s.Replaces t f r)
    (hr : f ≠ 0 → r.HoldsWhenSealed) (ha : t.areas = s.areas) : t.SealedHold := by
  rw [sealedHold_iff] at *
  refine ⟨fun n hn => ?_, fun n r hr => h.2 n r ?_⟩
  · rw [hrep.fmt]
    split
    · rename_i e
      exact hr e.2
    · exact h.1 n hn
  · rwa [ha] at hr

theorem State.SealedHold.setArea {a : FormatArea} (h : s.SealedHold) (ha : ∀ r, a = .sealed r → r.restored.Holds) :
    (s.setArea f a).SealedHold := by
  rw [sealedHold_iff] at *
  refine ⟨fun n hn => State.fmt_congr (State.setArea_formats s f a) n ▸ h.1 n hn, fun n r hr => ?_⟩
  rw [State.setArea_area] at hr
  split at hr
  · exact ha r hr
  · exact h.2 n r hr

theorem holdsWhenSealed_of_state {r : FormatRecord} (h : r.state = .empty ∨ r.state = .opened) : r.HoldsWhenSealed := by
  rintro (hs | hs) <;> rcases h with h | h <;> exact absurd (h.symm.trans hs) (by decide)

/-- The table cleared, storage kept. -/
theorem State.SealedHold.cleared (h : s.SealedHold) (hf : t.formats = Vector.replicate 32 FormatRecord.blank)
    (ha : t.areas = s.areas) : t.SealedHold := by
  rw [sealedHold_iff] at *
  refine ⟨fun n hn => ?_, fun n r hr => h.2 n r (by rwa [ha] at hr)⟩
  rw [State.fmt_of_ne _ hn, hf]
  exact holdsWhenSealed_of_state (.inl (by simp [FormatRecord.blank]))

/-- The record of the seal in flight has an entry: it is SEALING. -/
theorem State.SealedHold.of_seal (h : s.SealedHold) (hctx : s.ContextSound)
    (hseal : ∃ l, s.engine = some { job := .seal f, claimant := l }) : (s.fmt f).Holds := by
  obtain ⟨-, -, -, hf, hsealing, -⟩ := hctx.of_seal hseal
  exact (sealedHold_iff.1 h).1 f hf (.inr hsealing)

theorem LedgerMove.keeps_sealedHold (hmove : LedgerMove s t) (hctx : s.ContextSound) (h : s.SealedHold) :
    t.SealedHold := by
  cases hmove with
  | same ht =>
    obtain ⟨-, -, hf, -, ha, -⟩ := State.ledger_eq_iff.1 ht
    exact h.congr hf ha
  | millisecond | scanEnd | claimPlan | takePlan | release | disown | line => exact h.congr rfl rfl
  | reset => exact h.cleared rfl rfl
  | clear hs => exact h.cleared rfl rfl
  | restore f r hs hf ha =>
    exact h.replace (restore_replaces r) (fun _ _ => (sealedHold_iff.1 h).2 f r ha) (State.setFmt_areas ..)
  | area f a ha =>
    refine h.setArea fun r hr => ?_
    obtain ⟨rfl, hseal⟩ := ha r hr
    exact h.of_seal hctx hseal
  | opens l f kind =>
    exact h.replace (openFormat_replaces l kind) (fun _ => holdsWhenSealed_of_state (.inr rfl)) (State.setFmt_areas ..)
  | edit c r free hf he ho hedit =>
    have hopen := (hctx.of_open he (.inl ho)).2.2.1
    exact h.replace (edit_replaces c free) (fun _ => holdsWhenSealed_of_state (.inr (hedit.state.trans hopen)))
      (State.setFmt_areas ..)
  | beginSeal l c hf he hlist => exact h.replace (beginSeal_replaces l c) (fun _ _ => hlist) (State.setFmt_areas ..)
  | finishSeal f hseal =>
    exact h.replace finishSeal_replaces (fun _ _ => h.of_seal hctx hseal)
      ((State.setGen_areas ..).trans (State.setFmt_areas ..))
  | failSeal f =>
    exact h.replace failSeal_replaces (fun _ => holdsWhenSealed_of_state (.inr rfl)) (State.setFmt_areas ..)
  | discard c =>
    exact h.replace (discard_replaces c) (fun _ => holdsWhenSealed_of_state (.inl rfl)) (State.setFmt_areas ..)
  | retire l f =>
    exact h.replace (beginRetire_replaces l) (fun _ => holdsWhenSealed_of_state (.inl rfl)) (State.setFmt_areas ..)

/-- Settles O55, move by move over the nine parts. -/
theorem listsStaySoundAndInBand : Obligations.ListsStaySoundAndInBand := by
  unfold Obligations.ListsStaySoundAndInBand
  refine ⟨fun s t h hstep => ?_, fun s t hctx h hstep => ?_, fun s t h hstep => ?_⟩
  · exact (step_ledger hstep).keeps (P := State.StoreListsSound) (fun _ _ hmove => hmove.keeps_content lists_ofContent) h
  · exact ((step_ledger hstep).keeps (P := fun s => s.ContextSound ∧ s.SealedHold)
      (fun _ _ hmove h => ⟨hmove.keeps_contextSound h.1, hmove.keeps_sealedHold h.1 h.2⟩) ⟨hctx, h⟩).2
  · exact (step_ledger hstep).keeps (P := State.FieldsSound) (fun _ _ hmove => hmove.keeps_content fields_ofContent) h

end Sys2Proof.Machine
end

/-! ## The formats in the roles of the line stay SEALED, and the plans stay legal (R10, R16, R95, R109, R153) -/

section
namespace Sys2Proof.Machine

variable {s t : State} {f : FormatNo} {kind : FormatKind}

/-- The formats in the roles of the line. -/
def State.InRole (s : State) (f : FormatNo) : Prop :=
  f = s.active ∨ (∃ c, s.line.changeover? = some c ∧ f = c.target) ∨ ∃ kept g, s.line = .service kept f g

/-- A line that stays as it is keeps its roles when each SEALED format in them stays SEALED and of its kind. -/
theorem State.PhaseSound.of_stores (h : s.PhaseSound) (hl : t.line = s.line) (ha : t.active = s.active)
    (hst : ∀ f kind, s.InRole f → s.Stores f kind → t.Stores f kind) : t.PhaseSound := by
  rcases Line.cases s.line with hline | (hline | ⟨kept, ret, g, hline⟩) | ⟨c, hc⟩
  · rw [phaseSound_noFormat_iff (hl.trans hline)]
    exact ha.trans ((phaseSound_noFormat_iff hline).1 h)
  · rw [phaseSound_run_iff (hl.trans hline), ha]
    exact hst _ _ (.inl rfl) ((phaseSound_run_iff hline).1 h)
  · rw [phaseSound_service_iff (hl.trans hline), ha]
    obtain ⟨hactive, hret⟩ := (phaseSound_service_iff hline).1 h
    exact ⟨hst _ _ (.inl rfl) hactive, hret.imp_right (hst _ _ (.inr (.inr ⟨kept, g, hline⟩)))⟩
  · rw [phaseSound_changeover_iff ((congrArg _ hl).trans hc)]
    obtain ⟨htarget, horigin, hext, hactive⟩ := (phaseSound_changeover_iff hc).1 h
    refine ⟨hst _ _ (.inr (.inl ⟨c, hc, rfl⟩)) htarget, horigin.trans ha.symm, hext, ?_⟩
    rw [ha]
    exact hactive.imp_right (Or.imp (hst _ _ (.inl rfl)) (And.imp_right (hst _ _ (.inl rfl))))

theorem State.RolesSound.of_stores (h : s.RolesSound) (hl : t.line = s.line) (ha : t.active = s.active)
    (hs : t.stage = s.stage) (hst : ∀ f kind, s.InRole f → s.Stores f kind → t.Stores f kind) : t.RolesSound :=
  ⟨h.1.of_stores hl ha hst, fun hstage => hl.trans (h.2 (hs ▸ hstage))⟩

theorem State.RolesSound.congr (h : s.RolesSound) (hf : t.formats = s.formats) (hl : t.line = s.line)
    (ha : t.active = s.active) (hs : t.stage = s.stage) : t.RolesSound :=
  h.of_stores hl ha hs fun f kind _ hst => by rwa [State.Stores, State.fmt_congr hf]

/-- In NOFORMAT with F0 active nothing else is asked. -/
theorem rolesSound_of_noFormat (hl : t.line = .noFormat) (ha : t.active = 0) : t.RolesSound :=
  ⟨(phaseSound_noFormat_iff hl).2 ha, fun _ => hl⟩

/-- Before the scan has ended the line is in NOFORMAT with F0 active (R17). -/
theorem State.RolesSound.noFormat (h : s.RolesSound) (hs : s.stage ≠ .running) : s.line = .noFormat ∧ s.active = 0 := by
  have hl := h.2 hs
  exact ⟨hl, (phaseSound_noFormat_iff hl).1 h.1⟩

/-- The replaced record was that of a format that is not SEALED. -/
theorem State.RolesSound.replace {r : FormatRecord} (h : s.RolesSound) (hrep : s.Replaces t f r)
    (hf : f ≠ 0 → (s.fmt f).state ≠ .sealed ∨ ¬ s.InRole f) (hl : t.line = s.line) (ha : t.active = s.active)
    (hs : t.stage = s.stage) : t.RolesSound := by
  refine h.of_stores hl ha hs fun g kind hrole hst => ?_
  have hg : g ≠ f := by
    rintro rfl
    rcases hf hst.1 with hne | hout
    · exact hne hst.2.1
    · exact hout hrole
  rwa [State.Stores, hrep.fmt_of_ne hg]

/-- A pinned format is in a role of the line, and so is every format in a role but F0 (R10, R109). -/
theorem not_inRole_of_not_pinned (hf : f ≠ 0) (h : s.pinned f = false) : ¬ s.InRole f := by
  intro hrole
  rw [State.pinned, Bool.and_eq_false_iff, Bool.or_eq_false_iff] at h
  obtain ⟨hactive, hline⟩ := h.resolve_left (by simpa using hf)
  rcases hrole with rfl | ⟨c, hc, rfl⟩ | ⟨kept, g, hl⟩
  · simp at hactive
  · rcases Line.changeover?_eq_some.1 hc with ⟨m, hl⟩ | hl <;> simp [hl] at hline
  · simp [hl] at hline

theorem LedgerMove.keeps_rolesSound (hmove : LedgerMove s t) (hctx : s.ContextSound) (h : s.RolesSound) :
    t.RolesSound := by
  have unsealed {f : FormatNo} {state : FormatState} (hst : (s.fmt f).state = state) (hne : state ≠ .sealed)
      (_ : f ≠ 0) : (s.fmt f).state ≠ .sealed ∨ ¬ s.InRole f := .inl (hst ▸ hne)
  cases hmove with
  | same ht =>
    obtain ⟨hs, -, hf, -, -, -, -, hl, ha⟩ := State.ledger_eq_iff.1 ht
    exact h.congr hf hl ha hs
  | millisecond =>
    have hctx' : s.age.line.changeover? = s.line.changeover? := Line.age_changeover? s.line
    refine ⟨?_, fun hs => ?_⟩
    · rcases Line.cases s.line with hline | (hline | ⟨kept, ret, g, hline⟩) | ⟨c, hc⟩
      · exact h.1.of_stores (t := s.age) (by simp [State.age, hline, Line.age]) rfl fun _ _ _ => id
      · exact h.1.of_stores (t := s.age) (by simp [State.age, hline, Line.age]) rfl fun _ _ _ => id
      · exact h.1.of_stores (t := s.age) (by simp [State.age, hline, Line.age]) rfl fun _ _ _ => id
      · exact (phaseSound_changeover_iff (hctx'.trans hc)).2 ((phaseSound_changeover_iff hc).1 h.1)
    · have hline := h.2 hs
      simp [State.age, hline, Line.age]
  | scanEnd plan hs =>
    obtain ⟨hl, ha⟩ := h.noFormat (by simp [hs])
    exact rolesSound_of_noFormat hl ha
  | claimPlan | takePlan | release | disown => exact h.congr rfl rfl rfl rfl
  | line L n hl => exact hl h
  | reset => exact rolesSound_of_noFormat rfl rfl
  | clear hs =>
    obtain ⟨hl, ha⟩ := h.noFormat (by simp [hs])
    exact rolesSound_of_noFormat hl ha
  | area f a ha =>
    exact h.congr (State.setArea_formats ..) (State.setArea_line ..) (State.setArea_active ..) (State.setArea_stage ..)
  | restore f r hs hf ha hr hblank =>
    exact h.replace (restore_replaces r) (unsealed (state := .empty) (by rw [hblank]; rfl) (by decide))
      (State.setFmt_line ..) (State.setFmt_active ..) (State.setFmt_stage ..)
  | opens l f kind hs hf he hempty =>
    exact h.replace (openFormat_replaces l kind) (unsealed hempty (by decide))
      (State.setFmt_line ..) (State.setFmt_active ..) (State.setFmt_stage ..)
  | edit c r free hf he ho hedit =>
    exact h.replace (edit_replaces c free) (unsealed (hctx.of_open he (.inl ho)).2.2.1 (by decide))
      (State.setFmt_line ..) (State.setFmt_active ..) (State.setFmt_stage ..)
  | beginSeal l c hf he hlist hidle =>
    have hne : (s.fmt c.format).state ≠ .sealed := fun hsealed => hctx.sealed_ne hsealed he rfl
    exact h.replace (beginSeal_replaces l c) (fun _ => .inl hne)
      (State.setFmt_line ..) (State.setFmt_active ..) (State.setFmt_stage ..)
  | finishSeal f hseal =>
    obtain ⟨-, -, -, -, hsealing, -⟩ := hctx.of_seal hseal
    exact h.replace finishSeal_replaces (unsealed hsealing (by decide))
      ((State.setGen_line ..).trans (State.setFmt_line ..)) ((State.setGen_active ..).trans (State.setFmt_active ..))
      ((State.setGen_stage ..).trans (State.setFmt_stage ..))
  | failSeal f hseal =>
    obtain ⟨-, -, -, -, hsealing, -⟩ := hctx.of_seal hseal
    exact h.replace failSeal_replaces (unsealed hsealing (by decide))
      (State.setFmt_line ..) (State.setFmt_active ..) (State.setFmt_stage ..)
  | discard c he ho =>
    exact h.replace (discard_replaces c) (unsealed (hctx.of_open he ho).2.2.1 (by decide))
      (State.setFmt_line ..) (State.setFmt_active ..) (State.setFmt_stage ..)
  | retire l f hf hsealed hpin =>
    exact h.replace (beginRetire_replaces l) (fun _ => .inr (not_inRole_of_not_pinned hf hpin))
      (State.setFmt_line ..) (State.setFmt_active ..) (State.setFmt_stage ..)

/-! The plan in force and the plan being written. -/

/-- The plan in force stays, and every plan being written was being written before. -/
theorem State.PlansSound.of_engine (h : s.PlansSound) (hs : t.stage = s.stage) (hp : t.plan = s.plan)
    (he : ∀ plan l, t.engine = some { job := .planWrite plan, claimant := l } →
      ∃ m, s.engine = some { job := .planWrite plan, claimant := m }) : t.PlansSound := by
  refine ⟨fun hrun => hp ▸ h.1 (hs ▸ hrun), fun plan l hl => ?_⟩
  obtain ⟨m, hm⟩ := he plan l hl
  exact h.2 plan m hm

theorem State.PlansSound.congr (h : s.PlansSound) (hs : t.stage = s.stage) (hp : t.plan = s.plan)
    (he : t.engine = s.engine) : t.PlansSound :=
  h.of_engine hs hp fun _ l hl => ⟨l, he ▸ hl⟩

theorem LedgerMove.keeps_plansSound (hmove : LedgerMove s t) (h : s.PlansSound) : t.PlansSound := by
  cases hmove with
  | same ht =>
    obtain ⟨hs, hp, -, -, -, he, -⟩ := State.ledger_eq_iff.1 ht
    exact h.congr hs hp he
  | millisecond | line => exact h.congr rfl rfl rfl
  | reset => exact ⟨nofun, nofun⟩
  | clear hs => exact ⟨nofun, h.2⟩
  | scanEnd plan hs hplan => exact ⟨fun _ => hplan, h.2⟩
  | area => exact h.congr (State.setArea_stage ..) (State.setArea_plan ..) (State.setArea_engine ..)
  | restore | opens | edit | discard =>
    exact h.congr (State.setFmt_stage ..) (State.setFmt_plan ..) (State.setFmt_engine ..)
  | beginSeal | failSeal | retire => exact h.of_engine (State.setFmt_stage ..) (State.setFmt_plan ..) nofun
  | finishSeal =>
    exact h.of_engine ((State.setGen_stage ..).trans (State.setFmt_stage ..))
      ((State.setGen_plan ..).trans (State.setFmt_plan ..)) nofun
  | claimPlan l plan hplan =>
    refine ⟨h.1, fun plan' l' hl => ?_⟩
    cases hl
    exact hplan
  | takePlan plan ho =>
    obtain ⟨l, hl⟩ := ho
    exact ⟨fun _ => h.2 plan l hl, h.2⟩
  | release => exact h.of_engine rfl rfl nofun
  | disown l =>
    refine h.of_engine rfl rfl fun plan m hm => ?_
    obtain ⟨o, ho, hjob⟩ := Option.map_eq_some_iff.1 hm
    exact ⟨o.claimant, by rw [ho]; cases o; cases hjob; rfl⟩

/-- Settles O56, move by move over the nine parts. -/
theorem rolesStayWithSealedFormats : Obligations.RolesStayWithSealedFormats := by
  unfold Obligations.RolesStayWithSealedFormats
  refine ⟨fun s t hctx h hstep => ?_, fun s t h hstep => ?_⟩
  · exact ((step_ledger hstep).keeps (P := fun s => s.ContextSound ∧ s.RolesSound)
      (fun _ _ hmove h => ⟨hmove.keeps_contextSound h.1, hmove.keeps_rolesSound h.1 h.2⟩) ⟨hctx, h⟩).2
  · exact (step_ledger hstep).keeps (P := State.PlansSound) (fun _ _ hmove => hmove.keeps_plansSound) h

end Sys2Proof.Machine
end

/-! ## All the service of a request can do (R144 to R148) -/

section
namespace Sys2Proof.Machine

variable {l : LinkId} {k : ReqKind} {p : List Byte} {own : State → State × Answer}

/-- Without the scan ended, or on a line low after a break, every frame is discarded (R144, R145). -/
theorem State.take_discards {s : State} {kind : Byte} {act : State → State} (h : s.receives l = false) :
    s.take l kind act = s.received l := by
  have hdone : (s.frameDone l).receives l = false := by simpa [State.receives] using h
  simp only [State.take, hdone]
  rfl

/-- A frame on a link that serves another request changes the link alone (R147). -/
theorem State.take_busy {s : State} {kind : Byte} {act : State → State} (h : s.receives l = true)
    (hb : (s.link l).service.isSome = true) :
    s.take l kind act = s.setLink l ({ s.link l with rx := .hunt, gap := 0 }.refuseBusy kind) := by
  have hdone : (s.frameDone l).receives l = true := by simpa [State.receives] using h
  have hservice : ((s.frameDone l).link l).service.isSome = true := by simpa using hb
  unfold State.take
  simp only
  rw [if_pos hdone, if_pos hservice, State.frameDone_link]
  simp [State.frameDone]

/-- The state after a block has answered at once, or claimed the engine or the comparator. -/
def Answer.conclude (l : LinkId) : Answer → State → State
  | .reply r payload, t => t.respond l r payload
  | .later, t => t

/-- A frame is discarded, answered with BUSY, refused by one of checks 3 to 6, or its block answers. -/
theorem State.serve_cases (s : State) (l : LinkId) (k : ReqKind) (p : List Byte) (own : State → State × Answer) :
    s.serve l k p own = s.received l ∨
    (s.link l).service.isSome = true ∧
      s.serve l k p own = s.setLink l ({ s.link l with rx := .hunt, gap := 0 }.refuseBusy (kindCode k)) ∨
    s.Attends l ∧ (∃ r, s.serve l k p own = s.answered l (kindCode k) r []) ∨
    s.Attends l ∧ s.screen l k p = none ∧
      s.serve l k p own = (own (s.serving l (kindCode k))).2.conclude l (own (s.serving l (kindCode k))).1 := by
  cases hr : s.receives l with
  | false => exact .inl (State.serve_discards hr)
  | true =>
    cases hb : (s.link l).service with
    | some x =>
      have hbusy : (s.link l).service.isSome = true := by rw [hb]; rfl
      exact .inr (.inl ⟨rfl, State.serve_busy hr hbusy⟩)
    | none =>
      obtain ⟨hrun, hhigh⟩ : s.stage = .running ∧ (s.link l).lineLow = false := by simpa [State.receives] using hr
      have attends : s.Attends l := ⟨hrun, hhigh, hb⟩
      cases hs : s.screen l k p with
      | some r => exact .inr (.inr (.inl ⟨attends, r, State.serve_refused attends hs⟩))
      | none =>
        refine .inr (.inr (.inr ⟨attends, rfl, ?_⟩))
        cases ho : own (s.serving l (kindCode k)) with
        | mk t answer =>
          cases answer with
          | reply r payload => exact State.serve_replies attends hs ho
          | later => exact State.serve_later attends hs ho

theorem Answer.conclude_ledger (l : LinkId) (a : Answer) (t : State) : (a.conclude l t).ledger = t.ledger := by
  cases a <;> rfl

/-- But for its link, the service of a request leaves the nine parts as they were, or as its block leaves them. -/
theorem State.serve_ledger (s : State) (l : LinkId) (k : ReqKind) (p : List Byte) (own : State → State × Answer) :
    (s.serve l k p own).ledger = s.ledger ∨
      ∃ u : State, u.ledger = s.ledger ∧ (s.serve l k p own).ledger = (own u).1.ledger := by
  rcases s.serve_cases l k p own with h | ⟨-, h⟩ | ⟨-, r, h⟩ | ⟨-, -, h⟩ <;> rw [h]
  · exact .inl rfl
  · exact .inl rfl
  · exact .inl rfl
  · exact .inr ⟨s.serving l (kindCode k), rfl, Answer.conclude_ledger ..⟩

end Sys2Proof.Machine
end

/-! ## What leaves the format table alone (R2) -/

section
namespace Sys2Proof.Machine

variable {s t : State} {l : LinkId} {k : ReqKind} {p : List Byte} {f : FormatNo}

theorem State.formats_of_ledger (h : t.ledger = s.ledger) : t.formats = s.formats := (State.ledger_eq_iff.1 h).2.2.1

theorem State.ContextSound.of_ledger (h : s.ContextSound) (ht : t.ledger = s.ledger) : t.ContextSound :=
  LedgerMove.keeps_contextSound (.same ht) h

@[simp] theorem State.readRestarts_formats (f : FormatNo) : (s.readRestarts l f).formats = s.formats := by
  unfold State.readRestarts
  repeat' split
  all_goals rfl

/-- The requests that write a record of the table. -/
def recordKinds : List ReqKind :=
  [.formatOpen, .entryAdd, .entryDrop, .formatSet, .formatSeal, .formatDiscard, .formatRetire]

@[simp] theorem State.afterAbandon_formats (c : Changeover) : (s.afterAbandon c).formats = s.formats := by
  unfold State.afterAbandon
  split <;> rfl

@[simp] theorem State.queueVerification_formats (v : Verification) : (s.queueVerification l v).formats = s.formats :=
  State.formats_of_ledger (State.queueVerification_ledger v)

theorem ownBlock_formats (h : k ∉ recordKinds) (l : LinkId) (p : List Byte) (s : State) :
    (ownBlock l p k s).1.formats = s.formats := by
  cases k with
  | formatOpen | entryAdd | entryDrop | formatSet | formatSeal | formatDiscard | formatRetire =>
    exact absurd (by decide) h
  | ident | statusRead | planRead | monitorRead | lineRestart => rfl
  | slotRead | attentionClear | monitorSet | tripClear | planWrite =>
    simp only [ownBlock, ownSlotRead, ownAttentionClear, ownMonitorSet, ownTripClear, ownPlanWrite]
    repeat' split
    all_goals rfl
  | manifestBegin | manifestPart | manifestEnd =>
    simp only [ownBlock, ownManifestBegin, ownManifestPart, ownManifestEnd]
    repeat' split
    all_goals simp only [State.setBuffer_formats, State.queueVerification_formats]
  | lineChange | lineExtend | serviceEnter | serviceLeave =>
    simp only [ownBlock, ownLineChange, ownLineExtend, State.extend, ownServiceEnter, ownServiceLeave, State.leaveService]
    repeat' split
    all_goals rfl
  | lineAbandon =>
    simp only [ownBlock, ownLineAbandon]
    split
    · simp only [State.abandon, State.takeEvent_formats, State.raise_formats, State.afterAbandon_formats]
    · rfl
  | formatRead | entryRead =>
    simp only [ownBlock, ownFormatRead, ownEntryRead]
    repeat' split
    all_goals simp only [State.readRestarts_formats]

theorem endScan_formats (a b : Bool) : (s.endScan a b).formats = s.formats := by
  have hareas : ((s.scanPlanArea .a a).scanPlanArea .b b).formats = s.formats := State.formats_of_ledger (by simp)
  unfold State.endScan
  simp only
  split
  · exact (State.raiseIf_formats ..).trans
      ((State.formats_of_ledger (State.scanErase_ledger ..)).trans hareas)
  · exact hareas

@[simp] theorem State.sealSteps_formats (f : FormatNo) (n : Nat) : (s.sealSteps f n).formats = s.formats := by
  unfold State.sealSteps
  split
  · rfl
  · exact State.setArea_formats ..
  · exact State.setArea_formats ..
  · exact State.setArea_formats ..
  · exact State.setArea_formats s f (.sealed (s.recordToSeal f))

@[simp] theorem State.retireSteps_formats (f : FormatNo) (n : Nat) : (s.retireSteps f n).formats = s.formats := by
  unfold State.retireSteps
  split
  · rfl
  · exact State.setArea_formats ..
  · exact State.setArea_formats ..

@[simp] theorem State.respondTo_formats (c : Option LinkId) (r : Result) (b : List Byte) :
    (s.respondTo c r b).formats = s.formats := State.formats_of_ledger (State.respondTo_ledger c r b)

theorem timerOrReport_formats (j : SlotId) (verdict : Verdict) : (s.timerOrReport j verdict).formats = s.formats := by
  unfold State.timerOrReport
  split <;> simp

/-! The events that end no seal and discard no format. -/

theorem exec_comparisonEnd_formats (h : exec .comparisonEnd s = .next t) : t.formats = s.formats := by
  change execComparisonEnd s = .next t at h
  unfold execComparisonEnd at h
  split at h
  · cases h
    rfl
  · rename_i l _
    split at h
    · rename_i v _
      cases h
      cases ho : s.offer v (s.sequenceOf v) with
      | mk u r =>
        have hoffer : u.formats = s.formats := by
          unfold State.offer at ho
          split at ho
          · cases ho
            simp
          · cases ho
            rfl
        refine (State.formats_of_ledger ?_).trans hoffer
        simp only [State.endComparison, ho, State.startComparison_ledger]
        rfl
    all_goals
      cases h
      exact State.formats_of_ledger State.startComparison_ledger

theorem exec_retireEraseCompletion_formats {o : RetireOutcome} (h : exec (.retireEraseCompletion o) s = .next t) :
    t.formats = s.formats := by
  change execRetireEraseCompletion o s = .next t at h
  unfold execRetireEraseCompletion at h
  repeat' split at h
  all_goals
    cases h
    simp

theorem exec_planWriteCompletion_formats {o : PlanOutcome} (h : exec (.planWriteCompletion o) s = .next t) :
    t.formats = s.formats := by
  have hsteps (plan : Plan) (n : Nat) : (s.planSteps plan n).formats = s.formats :=
    State.formats_of_ledger (State.planSteps_ledger plan n)
  change execPlanWriteCompletion o s = .next t at h
  unfold execPlanWriteCompletion at h
  repeat' split at h
  all_goals
    cases h
    simp [State.endPlanWrite, State.takePlan, hsteps]

/-- The events that leave the format table alone, whatever the state. -/
def Instr.leavesFormats : Instr → Prop
  | .scanEnd .. | .linkBreak _ | .frameGapTimeout _ | .crcMismatch _ | .unknown .. | .transmitComplete _
  | .comparisonEnd | .presentationTimerExpiry _ | .settleTimerExpiry | .residencyTick | .retireEraseCompletion _
  | .planWriteCompletion _ | .linkLineReturnsHigh _ | .rateStrapChange .. => True
  | .characterReceived _ _ stop => stop = false
  | _ => False

theorem exec_formats {i : Instr} (h : exec i s = .next t) (hi : Instr.leavesFormats i) : t.formats = s.formats := by
  cases i with
  | comparisonEnd => exact exec_comparisonEnd_formats h
  | retireEraseCompletion o => exact exec_retireEraseCompletion_formats h
  | planWriteCompletion o => exact exec_planWriteCompletion_formats h
  | crcMismatch | transmitComplete | residencyTick | linkLineReturnsHigh | rateStrapChange =>
    cases h
    rfl
  | frameGapTimeout l =>
    cases h
    split <;> rfl
  | unknown l kind p =>
    cases h
    simp only [State.take]
    repeat' split
    all_goals rfl
  | scanEnd a b =>
    change execScanEnd a b s = .next t at h
    unfold execScanEnd at h
    split at h
    · cases h
      exact endScan_formats a b
    all_goals
      cases h
      rfl
  | linkBreak l =>
    change execLinkBreak l s = .next t at h
    unfold execLinkBreak at h
    split at h
    · cases h
      rfl
    · cases h
      exact (State.formats_of_ledger State.cancelManifest_ledger).trans rfl
  | presentationTimerExpiry k =>
    change execPresentationTimerExpiry k s = .next t at h
    unfold execPresentationTimerExpiry at h
    split at h
    case h_4 =>
      cases h
      rfl
    all_goals
      cases h
      exact State.formats_of_ledger (State.degrade_ledger ..)
  | settleTimerExpiry =>
    change execSettleTimerExpiry s = .next t at h
    unfold execSettleTimerExpiry at h
    split at h
    · cases h
      exact State.takeEvent_formats ..
    all_goals
      cases h
      rfl
  | characterReceived l ch stop =>
    obtain rfl : stop = false := hi
    change execCharacterReceived l ch false s = .next t at h
    unfold execCharacterReceived at h
    split at h
    · cases h
      rfl
    · cases h
      rfl
  | _ => cases hi

end Sys2Proof.Machine
end

/-! ## The transitions of a format's state (R2) -/

section
namespace Sys2Proof.Machine

variable {s t : State} {l : LinkId} {k : ReqKind} {p : List Byte} {f : FormatNo} {c : EnrollContext}

/-- The states a record passes through by a request that is accepted on it: FORMAT-OPEN, FORMAT-SEAL, FORMAT-DISCARD and
FORMAT-RETIRE. -/
def requestTransition (k : ReqKind) (before after : FormatState) : Prop :=
  (k = .formatOpen ∧ before = .empty ∧ after = .opened) ∨ (k = .formatSeal ∧ before = .opened ∧ after = .sealing) ∨
    (k = .formatDiscard ∧ before = .opened ∧ after = .empty) ∨ (k = .formatRetire ∧ before = .sealed ∧ after = .empty)

/-- A request leaves the state of a record, or names the record and moves it along R2. -/
def RequestStep (k : ReqKind) (p : List Byte) (f : FormatNo) (s t : State) : Prop :=
  (t.fmt f).state = (s.fmt f).state ∨
    (byteAt p 0).toNat = f.val ∧ requestTransition k (s.fmt f).state (t.fmt f).state

theorem RequestStep.of_formats (h : t.formats = s.formats) : RequestStep k p f s t := .inl (by rw [State.fmt_congr h])

/-- The record named by the request is replaced, and moves along R2 or keeps its state. -/
theorem RequestStep.of_replaces {g : FormatNo} {r : FormatRecord} (hrep : s.Replaces t g r) (hg : g ≠ 0)
    (hb : (byteAt p 0).toNat = g.val) (hr : r.state = (s.fmt g).state ∨ requestTransition k (s.fmt g).state r.state) :
    RequestStep k p f s t := by
  by_cases hf : f = g
  · subst hf
    unfold RequestStep
    rw [hrep.fmt_same hg]
    exact hr.imp_right fun h => ⟨hb, h⟩
  · exact .inl (by rw [hrep.fmt_of_ne hf])

theorem ownFormatOpen_step (f : FormatNo) : RequestStep .formatOpen p f s (ownFormatOpen l p s).1 := by
  unfold ownFormatOpen
  split
  · rename_i g kind hg _
    split
    · exact .of_formats rfl
    · split
      · exact .of_formats rfl
      · rename_i hempty
        obtain ⟨hg0, hb⟩ := storableOf_eq_some hg
        exact .of_replaces (openFormat_replaces l kind) hg0 hb (.inr (.inl ⟨rfl, not_not.1 hempty, rfl⟩))
  · exact .of_formats rfl

theorem ownEntryAdd_step (f : FormatNo) : RequestStep .entryAdd p f s (ownEntryAdd l p s).1 := by
  unfold ownEntryAdd
  split
  · exact .of_formats rfl
  · rename_i c hc
    obtain ⟨-, hf, -, hb⟩ := reachContext_ok hc
    split
    · exact .of_formats rfl
    · split
      · iterate 4
          split
          · exact .of_formats rfl
        exact .of_replaces (r := FormatRecord.withList ..) rfl hf hb (.inl rfl)
      · exact .of_formats rfl

theorem ownEntryDrop_step (f : FormatNo) : RequestStep .entryDrop p f s (ownEntryDrop l p s).1 := by
  unfold ownEntryDrop
  split
  · exact .of_formats rfl
  · rename_i c hc
    obtain ⟨-, hf, -, hb⟩ := reachContext_ok hc
    repeat' split
    case h_2.isFalse.isTrue => exact .of_replaces (r := FormatRecord.withList ..) rfl hf hb (.inl rfl)
    all_goals exact .of_formats rfl

theorem ownFormatSet_step (f : FormatNo) : RequestStep .formatSet p f s (ownFormatSet l p s).1 := by
  unfold ownFormatSet
  split
  · exact .of_formats rfl
  · rename_i c hc
    obtain ⟨-, hf, -, hb⟩ := reachContext_ok hc
    split
    · exact .of_formats rfl
    · split
      · exact .of_formats rfl
      · exact .of_replaces (r := { s.fmt c.format with tag := _, settle := _, interval := _ }) rfl hf hb (.inl rfl)

theorem ownFormatSeal_step (hctx : s.ContextSound) (f : FormatNo) :
    RequestStep .formatSeal p f s (ownFormatSeal l p s).1 := by
  unfold ownFormatSeal
  split
  · exact .of_formats rfl
  · rename_i c hc
    obtain ⟨he, hf, -, hb⟩ := reachContext_ok hc
    split
    · exact .of_formats rfl
    · rename_i ho
      split
      · exact .of_formats rfl
      · split
        · exact .of_formats rfl
        · exact .of_replaces (beginSeal_replaces l c) hf hb
            (.inr (.inr (.inl ⟨rfl, (hctx.of_open he (.inl ho)).2.2.1, rfl⟩)))

theorem ownFormatDiscard_step (hctx : s.ContextSound) (f : FormatNo) :
    RequestStep .formatDiscard p f s (ownFormatDiscard l p s).1 := by
  unfold ownFormatDiscard
  split
  · exact .of_formats rfl
  · rename_i c hc
    obtain ⟨he, hf, -, hb⟩ := reachContext_ok hc
    split
    · exact .of_formats rfl
    · rename_i ho
      exact .of_replaces (discard_replaces c) hf hb
        (.inr (.inr (.inr (.inl ⟨rfl, (hctx.of_open he (.inl ho)).2.2.1, rfl⟩))))

theorem ownFormatRetire_step (f : FormatNo) : RequestStep .formatRetire p f s (ownFormatRetire l p s).1 := by
  unfold ownFormatRetire
  split
  · exact .of_formats rfl
  · rename_i g hg
    obtain ⟨hg0, hb⟩ := storableOf_eq_some hg
    split
    · exact .of_formats rfl
    · rename_i hsealed
      split
      · exact .of_formats rfl
      · split
        · exact .of_formats rfl
        · exact .of_replaces (beginRetire_replaces l) hg0 hb
            (.inr (.inr (.inr (.inr ⟨rfl, not_not.1 hsealed, rfl⟩))))

theorem ownBlock_step (hctx : s.ContextSound) (l : LinkId) (p : List Byte) (k : ReqKind) (f : FormatNo) :
    RequestStep k p f s (ownBlock l p k s).1 := by
  by_cases hk : k ∈ recordKinds
  · simp only [recordKinds, List.mem_cons, List.not_mem_nil, or_false] at hk
    rcases hk with rfl | rfl | rfl | rfl | rfl | rfl | rfl
    · exact ownFormatOpen_step f
    · exact ownEntryAdd_step f
    · exact ownEntryDrop_step f
    · exact ownFormatSet_step f
    · exact ownFormatSeal_step hctx f
    · exact ownFormatDiscard_step hctx f
    · exact ownFormatRetire_step f
  · exact .of_formats (ownBlock_formats hk l p s)

theorem exec_requestCommand_step (hctx : s.ContextSound) (h : exec (requestCommand l k p) s = .next t) (f : FormatNo) :
    RequestStep k p f s t := by
  rw [exec_requestCommand] at h
  cases h
  rcases s.serve_ledger l k p (ownBlock l p k) with hsame | ⟨u, hu, hown⟩
  · exact .of_formats (State.formats_of_ledger hsame)
  · have hstep := ownBlock_step (hctx.of_ledger hu) l p k f
    have hbefore := State.fmt_congr (State.formats_of_ledger hu) f
    have hafter := State.fmt_congr (State.formats_of_ledger hown) f
    unfold RequestStep at *
    rwa [hbefore, ← hafter] at hstep

/-- The end of a seal leaves the context's format SEALED, or OPEN again (R31, R32). -/
theorem exec_sealCompletion_step (hctx : s.ContextSound) {o : SealOutcome} (h : exec (.sealCompletion o) s = .next t)
    (f : FormatNo) : (t.fmt f).state = (s.fmt f).state ∨
      (s.fmt f).state = .sealing ∧ ((t.fmt f).state = .sealed ∨ (t.fmt f).state = .opened) := by
  change execSealCompletion o s = .next t at h
  unfold execSealCompletion at h
  split at h
  · rename_i g l he
    obtain ⟨-, -, -, hg, hsealing, -⟩ := hctx.of_seal ⟨l, he⟩
    have hkept := State.fmt_congr (State.sealSteps_formats (s := s) g (sealStepsKept o))
    split at h
    · cases h
      have hrep := finishSeal_replaces (s := s.sealSteps g (sealStepsKept o)) (f := g)
      rw [State.fmt_congr (s := (s.sealSteps g (sealStepsKept o)).finishSeal g) (by simp), hrep.fmt, hkept, hkept]
      split
      · rename_i e
        exact .inr ⟨e.1 ▸ hsealing, .inl rfl⟩
      · exact .inl rfl
    · cases h
      have hrep := failSeal_replaces (s := s.sealSteps g (sealStepsKept o)) (f := g)
      rw [State.fmt_congr (s := (s.sealSteps g (sealStepsKept o)).failSeal g) (by simp), hrep.fmt, hkept, hkept]
      split
      · rename_i e
        exact .inr ⟨e.1 ▸ hsealing, .inr rfl⟩
      · exact .inl rfl
  · cases h
    exact .inl rfl

/-- The idle expiry discards the OPEN format (R22). -/
theorem exec_idleTimerExpiry_step (hctx : s.ContextSound) (h : exec .idleTimerExpiry s = .next t) (f : FormatNo) :
    (t.fmt f).state = (s.fmt f).state ∨ (s.fmt f).state = .opened ∧ (t.fmt f).state = .empty := by
  change execIdleTimerExpiry s = .next t at h
  unfold execIdleTimerExpiry at h
  split at h
  · rename_i he
    cases h
    rw [(discard_replaces (s := s) _).fmt]
    split
    · rename_i e
      exact .inr ⟨e.1 ▸ (hctx.of_open he (.inr rfl)).2.2.1, rfl⟩
    · exact .inl rfl
  · cases h
    exact .inl rfl

/-- Settles O60: a request moves the record it names, the end of a seal and the idle expiry the context's, and no other
event writes the table. -/
theorem formatStatesFollowTheTable : Obligations.FormatStatesFollowTheTable := by
  unfold Obligations.FormatStatesFollowTheTable
  intro i s t f hctx h hf hpower hpin hrelease hchar
  cases hreq : i.request? with
  | some request =>
    obtain ⟨l, k, p⟩ := request
    obtain rfl := request_eq_requestCommand hreq
    rcases exec_requestCommand_step hctx h f with hsame | ⟨hb, hmoves⟩
    · exact .inl hsame
    · rcases hmoves with ⟨rfl, h1, h2⟩ | ⟨rfl, h1, h2⟩ | ⟨rfl, h1, h2⟩ | ⟨rfl, h1, h2⟩
      · exact .inr (.inl ⟨h1, h2, l, p, rfl, hb⟩)
      · exact .inr (.inr (.inl ⟨h1, h2, l, p, rfl, hb⟩))
      · exact .inr (.inr (.inr (.inl ⟨h1, h2, .inr ⟨l, p, rfl, hb⟩⟩)))
      · exact .inr (.inr (.inr (.inr (.inr ⟨h1, h2, l, p, rfl, hb⟩))))
  | none =>
    cases i with
    | powerOn n fails => exact absurd rfl (hpower n fails)
    | pinReset n => exact absurd rfl (hpin n)
    | pinResetRelease fails => exact absurd rfl (hrelease fails)
    | sealCompletion o =>
      rcases exec_sealCompletion_step hctx h f with hsame | ⟨h1, h2⟩
      · exact .inl hsame
      · exact .inr (.inr (.inr (.inr (.inl ⟨h1, h2, o, rfl⟩))))
    | idleTimerExpiry =>
      rcases exec_idleTimerExpiry_step hctx h f with hsame | ⟨h1, h2⟩
      · exact .inl hsame
      · exact .inr (.inr (.inr (.inl ⟨h1, h2, .inl rfl⟩)))
    | characterReceived l ch stop =>
      have hstop : stop = false := by
        cases stop
        · rfl
        · exact absurd rfl (hchar l ch)
      exact .inl (by rw [State.fmt_congr (exec_formats h hstop)])
    | scanEnd | linkBreak | frameGapTimeout | crcMismatch | unknown | transmitComplete | comparisonEnd
    | presentationTimerExpiry | settleTimerExpiry | residencyTick | retireEraseCompletion | planWriteCompletion
    | linkLineReturnsHigh | rateStrapChange =>
      exact .inl (by rw [State.fmt_congr (exec_formats h trivial)])
    | _ => cases hreq

end Sys2Proof.Machine
end

/-! ## A link stays sound by all it does (R145 to R147) -/

section
namespace Sys2Proof.Machine

variable {x : Link} {kind : Byte} {r : Result} {payload : List Byte}

/-- The link has a request of KIND `kind` in service and its response is still to be produced. -/
def Link.Waits (x : Link) (kind : Byte) : Prop := x.service = some { kind := kind, progress := .awaiting }

/-- Soundness reads service, BUSY slot and transmitter. -/
theorem Link.Sound.congr {y : Link} (h : x.Sound) (hs : y.service = x.service) (hb : y.busySlot = x.busySlot)
    (ht : y.tx = x.tx) : y.Sound := by
  unfold Link.Sound at *
  rwa [hs, hb, ht]

/-- A link with nothing in service, no BUSY answer and a free transmitter. -/
theorem Link.sound_of_quiet (hs : x.service = none) (hb : x.busySlot = none) (ht : x.tx = none) : x.Sound := by
  simp [Link.Sound, hs, hb, ht]

/-- Arbitration of a free transmitter leaves the link sound, provided no response is on LTXn. -/
theorem Link.arbitrate_sound (ht : x.tx = none) (hs : ∀ k, x.service ≠ some { kind := k, progress := .sending }) :
    x.arbitrate.Sound := by
  by_cases hready : ∃ k r, x.service = some { kind := k, progress := .ready r }
  · obtain ⟨k, r, hr⟩ := hready
    rw [Link.arbitrate_response ht hr]
    simp [Link.Sound]
  · simp only [not_exists] at hready
    obtain ⟨hslot, hempty⟩ := Link.arbitrate_no_response ht hready
    cases hb : x.busySlot with
    | some k =>
      rw [hslot k hb]
      simp [Link.Sound, hs]
    | none =>
      rw [hempty hb]
      simp [Link.Sound, ht, hb, hs, hready]

/-- A busy transmitter goes on with what it sends. -/
theorem Link.arbitrate_of_sending {t : Transmission} (ht : x.tx = some t) : x.arbitrate = x := by
  simp only [Link.arbitrate, ht]

/-- Arbitration leaves a request whose response is still to be produced. -/
theorem Link.arbitrate_waits (h : x.Waits kind) : x.arbitrate.Waits kind := by
  cases ht : x.tx with
  | some t => rwa [Link.arbitrate_of_sending ht]
  | none =>
    have hready : ∀ k r, x.service ≠ some { kind := k, progress := .ready r } := fun k r e => by
      rw [h] at e
      cases e
    obtain ⟨hslot, hempty⟩ := Link.arbitrate_no_response ht hready
    cases hb : x.busySlot with
    | some k =>
      rw [hslot k hb]
      exact h
    | none => rwa [hempty hb]

/-- A request in service for which nothing is sent yet keeps a link sound. -/
theorem Link.Sound.begins (h : x.Sound) (hs : x.service = none) (rx : Receiver) (gap : Nat) :
    Link.Sound { x with rx := rx, gap := gap, service := some { kind := kind, progress := .awaiting } } := by
  obtain ⟨hsend, hfree⟩ := h
  refine ⟨?_, fun ht => ⟨(hfree ht).1, by simp⟩⟩
  rw [hsend]
  simp [hs]

/-- The response of a request in service. -/
theorem Link.Sound.answering (h : x.Sound) (hw : x.Waits kind) (kind' : Byte) :
    (x.answering kind' r payload).Sound := by
  obtain ⟨hsend, hfree⟩ := h
  unfold Link.answering
  split
  · simp [Link.Sound]
  · rename_i t ht
    have hbusy : ¬ ∃ chars, x.tx = some { isBusy := false, chars := chars } := by
      rw [hsend, hw]
      simp
    simp only [ht] at hbusy
    simp [Link.Sound, ht, not_exists.1 hbusy]

/-- A response is produced, or is lost with its request. -/
theorem Link.Sound.respond (h : x.Sound) : (x.respond r payload).Sound := by
  by_cases hw : ∃ kind, x.Waits kind
  · obtain ⟨kind, hw⟩ := hw
    rw [Link.respond_eq hw]
    exact h.answering hw kind
  · have hlost : x.respond r payload = x := by
      unfold Link.respond
      split
      · rename_i k hs
        exact absurd ⟨k, hs⟩ hw
      · rfl
    rwa [hlost]

/-- BUSY waits in the slot or is sent (R147). -/
theorem Link.Sound.refuseBusy (h : x.Sound) : (x.refuseBusy kind).Sound := by
  unfold Link.refuseBusy
  split
  · exact h
  · obtain ⟨hsend, -⟩ := h
    by_cases ht : x.tx = none
    · refine Link.arbitrate_sound ht fun k hk => ?_
      obtain ⟨chars, e⟩ := hsend.2 ⟨k, hk⟩
      rw [ht] at e
      cases e
    · obtain ⟨t, hsome⟩ := Option.ne_none_iff_exists'.1 ht
      rw [Link.arbitrate_of_sending (x := { x with busySlot := some kind }) hsome]
      exact ⟨hsend, fun hfree => absurd hfree ht⟩

theorem Link.refuseBusy_waits {k : Byte} (h : x.Waits k) : (x.refuseBusy kind).Waits k := by
  unfold Link.refuseBusy
  split
  · exact h
  · exact Link.arbitrate_waits h

/-- The transmitter finishes a frame (R146, R147). -/
theorem Link.Sound.transmitted (h : x.Sound) : x.transmitted.Sound := by
  obtain ⟨hsend, -⟩ := id h
  match ht : x.tx with
  | none => rwa [Link.transmitted_idle ht]
  | some { isBusy := true, chars := cs } =>
    rw [Link.transmitted_busy ht]
    refine Link.arbitrate_sound rfl fun k hk => ?_
    obtain ⟨chars, e⟩ := hsend.2 ⟨k, hk⟩
    simp [ht] at e
  | some { isBusy := false, chars := cs } =>
    rw [Link.transmitted_response ht]
    exact Link.arbitrate_sound rfl (by simp)

/-- The end of a transmission leaves a request whose response is still to be produced. -/
theorem Link.Sound.transmitted_waits (h : x.Sound) (hw : x.Waits kind) : x.transmitted.Waits kind := by
  match ht : x.tx with
  | none => rwa [Link.transmitted_idle ht]
  | some { isBusy := true, chars := cs } =>
    rw [Link.transmitted_busy ht]
    exact Link.arbitrate_waits hw
  | some { isBusy := false, chars := cs } =>
    obtain ⟨k, hk⟩ := h.1.1 ⟨cs, ht⟩
    rw [hw] at hk
    cases hk

end Sys2Proof.Machine
end

/-! ## Links, engine, buffers and comparator agree: the moves that keep it (R12, R69, R75, R76) -/

section
namespace Sys2Proof.Machine

variable {s t u : State} {l m : LinkId} {kind : Byte} {r : Result} {payload : List Byte} {v : Verification} {o : Operation}

/-- The two invariants together. -/
def State.Agrees (s : State) : Prop := s.LinksSound ∧ s.ManifestsSound

/-- The parts of the state they read. -/
def State.exchange (s : State) : Vector Link 8 × Option Operation × Vector Buffer 8 × List LinkId × Option LinkId :=
  (s.links, s.engine, s.buffers, s.queue, s.comparing)

theorem State.exchange_eq_iff : t.exchange = s.exchange ↔ t.links = s.links ∧ t.engine = s.engine ∧
    t.buffers = s.buffers ∧ t.queue = s.queue ∧ t.comparing = s.comparing := by
  simp [State.exchange]

theorem Buffer.isVerifying_iff (b : Buffer) : b.isVerifying = true ↔ ∃ v, b = .verifying v := by
  cases b <;> simp [Buffer.isVerifying]

theorem State.awaits_iff : s.Awaits l kind ↔ (s.link l).Waits kind := .rfl

/-- Queue and comparator are as they were, and the buffers verify what they verified. -/
structure State.KeepsDesk (s t : State) : Prop where
  queue : t.queue = s.queue
  comparing : t.comparing = s.comparing
  sound : ∀ l : LinkId, s.buffers[l].Sound → t.buffers[l].Sound
  verifying : ∀ l : LinkId, t.buffers[l].isVerifying = s.buffers[l].isVerifying

theorem State.KeepsDesk.of_eq (hb : t.buffers = s.buffers) (hq : t.queue = s.queue) (hc : t.comparing = s.comparing) :
    s.KeepsDesk t := ⟨hq, hc, fun l => by rw [hb]; exact id, fun l => by rw [hb]⟩

theorem State.KeepsDesk.inComparator (h : s.KeepsDesk t) : t.InComparator m ↔ s.InComparator m := by
  rw [State.InComparator, State.InComparator, h.queue, h.comparing]

/-- Where the comparator is left alone, it is enough that links stay sound, the claim is awaited, and the links of the
comparator still await. -/
theorem State.Agrees.of_keepsDesk (h : s.Agrees) (hdesk : s.KeepsDesk t) (hlinks : ∀ m : LinkId, (t.link m).Sound)
    (hclaim : t.ClaimSound) (hawaits : ∀ m : LinkId, s.InComparator m → s.Awaits m 0x12 → t.Awaits m 0x12) :
    t.Agrees := by
  obtain ⟨-, hbuffers, hnodup, hout, hidle, hboth⟩ := h
  refine ⟨⟨hlinks, hclaim⟩, fun m => hdesk.sound m (hbuffers m), ?_, ?_, ?_, fun m => ⟨?_, fun hm => ?_⟩⟩
  · rwa [hdesk.queue]
  · rwa [hdesk.queue, hdesk.comparing]
  · rwa [hdesk.queue, hdesk.comparing]
  · rw [hdesk.inComparator, (hboth m).1, ← Buffer.isVerifying_iff, ← Buffer.isVerifying_iff, hdesk.verifying]
  · have hin := hdesk.inComparator.1 hm
    exact hawaits m hin ((hboth m).2 hin)

theorem State.Agrees.of_exchange (h : s.Agrees) (ht : t.exchange = s.exchange) : t.Agrees := by
  obtain ⟨hl, he, hb, hq, hc⟩ := State.exchange_eq_iff.1 ht
  have hlink (m : LinkId) : t.link m = s.link m := by rw [State.link, hl, State.link]
  have hawaits (m : LinkId) (kind : Byte) : s.Awaits m kind → t.Awaits m kind := by
    rw [State.Awaits, State.Awaits, hlink]
    exact id
  obtain ⟨⟨hlinks, hclaim⟩, -⟩ := id h
  exact h.of_keepsDesk (.of_eq hb hq hc) (fun m => by rw [hlink]; exact hlinks m)
    (fun o l ho hl => hawaits _ _ (hclaim o l (he ▸ ho) hl)) (fun m _ => hawaits m _)

/-- Links that stay sound and await what they awaited. -/
theorem State.Agrees.of_links (h : s.Agrees) (hlinks : ∀ m : LinkId, (t.link m).Sound)
    (hawaits : ∀ (m : LinkId) (kind : Byte), s.Awaits m kind → t.Awaits m kind) (he : t.engine = s.engine)
    (hb : t.buffers = s.buffers) (hq : t.queue = s.queue) (hc : t.comparing = s.comparing) : t.Agrees :=
  h.of_keepsDesk (.of_eq hb hq hc) hlinks (fun o l ho hl => hawaits _ _ (h.1.2 o l (he ▸ ho) hl))
    (fun m _ => hawaits m _)

/-- One link that stays sound and awaits what it awaited. -/
theorem State.Agrees.setLink (h : s.Agrees) {x : Link} (hx : x.Sound)
    (hw : ∀ kind, (s.link l).Waits kind → x.Waits kind) : (s.setLink l x).Agrees := by
  refine h.of_links (fun m => ?_) (fun m kind hm => ?_) rfl rfl rfl rfl
  · by_cases e : m = l
    · subst e
      rwa [State.setLink_link]
    · rw [State.setLink_link_of_ne s x e]
      exact h.1.1 m
  · by_cases e : m = l
    · subst e
      rw [State.awaits_iff, State.setLink_link]
      exact hw kind hm
    · rwa [State.Awaits, State.setLink_link_of_ne s x e]

/-- The receiver, its gap and the line level do not matter. -/
theorem State.Agrees.setReceiver (h : s.Agrees) (rx : Receiver) (gap : Nat) (low : Bool) :
    (s.setLink l { s.link l with rx := rx, gap := gap, lineLow := low }).Agrees :=
  h.setLink ((h.1.1 l).congr rfl rfl rfl) fun _ => id

/-! A link for which neither engine nor comparator holds a request. -/

/-- Everything agrees, and nothing long is under way for the link. -/
structure State.Free (l : LinkId) (s : State) : Prop where
  agrees : s.Agrees
  unclaimed : ∀ o, s.engine = some o → o.claimant ≠ some l
  uncompared : ¬ s.InComparator l

theorem State.Free.of_exchange (h : s.Free l) (ht : t.exchange = s.exchange) : t.Free l := by
  obtain ⟨-, he, -, hq, hc⟩ := State.exchange_eq_iff.1 ht
  refine ⟨h.agrees.of_exchange ht, he ▸ h.unclaimed, ?_⟩
  rw [State.InComparator, hq, hc]
  exact h.uncompared

theorem State.Free.not_verifying (h : s.Free l) : s.buffers[l].isVerifying = false := by
  obtain ⟨-, -, -, -, -, hboth⟩ := h.agrees
  have hnot := mt (hboth l).1.2 h.uncompared
  rw [← Buffer.isVerifying_iff] at hnot
  exact Bool.eq_false_iff.2 hnot

/-- Its link may change as it likes, if it stays sound. -/
theorem State.Free.setLink (h : s.Free l) {x : Link} (hx : x.Sound) : (s.setLink l x).Free l := by
  have hlinks (m : LinkId) : ((s.setLink l x).link m).Sound := by
    by_cases e : m = l
    · subst e
      rwa [State.setLink_link]
    · rw [State.setLink_link_of_ne s x e]
      exact h.agrees.1.1 m
  have hawaits (m : LinkId) (kind : Byte) (e : m ≠ l) (hm : s.Awaits m kind) : (s.setLink l x).Awaits m kind := by
    rwa [State.Awaits, State.setLink_link_of_ne s x e]
  refine ⟨h.agrees.of_keepsDesk (.of_eq rfl rfl rfl) hlinks (fun o m ho hm => ?_) (fun m hin hm => ?_), h.unclaimed,
    h.uncompared⟩
  · exact hawaits m _ (fun e => h.unclaimed o ho (e ▸ hm)) (h.agrees.1.2 o m ho hm)
  · exact hawaits m _ (fun e => h.uncompared (e ▸ hin)) hm

theorem State.Free.respond (h : s.Free l) : (s.respond l r payload).Agrees :=
  (h.setLink (h.agrees.1.1 l).respond).agrees

/-- A new assembly or an empty buffer (R62, R64, R65). -/
theorem State.Free.setBuffer (h : s.Free l) {b : Buffer} (hb : b.Sound) (hv : b.isVerifying = false) :
    (s.setBuffer l b).Free l := by
  have hsame : (s.setBuffer l b).buffers[l] = b := Vector.getElem_set_self ..
  have hother (m : LinkId) (e : m ≠ l) : (s.setBuffer l b).buffers[m] = s.buffers[m] :=
    Vector.getElem_set_ne l.isLt m.isLt fun e' => e (Fin.ext e'.symm)
  have hdesk : s.KeepsDesk (s.setBuffer l b) := by
    refine ⟨rfl, rfl, fun m => ?_, fun m => ?_⟩
    · by_cases e : m = l
      · subst e
        rw [hsame]
        exact fun _ => hb
      · rw [hother m e]
        exact id
    · by_cases e : m = l
      · subst e
        rw [hsame, hv, h.not_verifying]
      · rw [hother m e]
  exact ⟨h.agrees.of_keepsDesk hdesk h.agrees.1.1 h.agrees.1.2 fun _ _ => id, h.unclaimed, h.uncompared⟩

/-- The link claims the engine; the buffers verify what they verified (R12). -/
theorem State.Free.claim (h : s.Free l) (hdesk : s.KeepsDesk t) (hlinks : t.links = s.links)
    (he : t.engine = some o) (ho : o.claimant = some l) (ha : s.Awaits l o.job.requestKind) : t.Agrees := by
  have hlink (m : LinkId) : t.link m = s.link m := by rw [State.link, hlinks, State.link]
  have hawaits (m : LinkId) (kind : Byte) : s.Awaits m kind → t.Awaits m kind := by
    rw [State.Awaits, State.Awaits, hlink]
    exact id
  refine h.agrees.of_keepsDesk hdesk (fun m => by rw [hlink]; exact h.agrees.1.1 m) (fun o' m ho' hm => ?_)
    fun m _ => hawaits m _
  obtain rfl : o = o' := Option.some.inj (he.symm.trans ho')
  obtain rfl : l = m := Option.some.inj (ho.symm.trans hm)
  exact hawaits _ _ ha

/-! The claim ends. -/

/-- No operation is claimed by a MANIFEST-END. -/
theorem Job.requestKind_ne (j : Job) : j.requestKind ≠ 0x12 := by
  cases j <;> simp [Job.requestKind]

/-- The engine's operation ends with the response on its claimant, or without one (R12). -/
theorem State.Agrees.concludes (h : s.Agrees) (ho : s.engine = some o) (hdesk : s.KeepsDesk t) (hlinks : t.links = s.links)
    (he : t.engine = none) : (t.respondTo o.claimant r payload).Agrees := by
  have hlink (m : LinkId) : t.link m = s.link m := by rw [State.link, hlinks, State.link]
  have hquiet : t.Agrees := by
    refine h.of_keepsDesk hdesk (fun m => by rw [hlink]; exact h.1.1 m) (fun o' m ho' => ?_) (fun m _ hm => ?_)
    · rw [he] at ho'
      cases ho'
    · rwa [State.Awaits, hlink]
  cases hl : o.claimant with
  | none => exact hquiet
  | some l =>
    refine State.Free.respond ⟨hquiet, fun o' ho' => ?_, fun hin => o.job.requestKind_ne ?_⟩
    · rw [he] at ho'
      cases ho'
    · obtain ⟨-, -, -, -, -, hboth⟩ := id h
      have hcompared := (hboth l).2 (hdesk.inComparator.1 hin)
      have hclaimed := h.1.2 o l ho hl
      rw [State.Awaits] at hcompared hclaimed
      rw [hcompared] at hclaimed
      exact (Service.mk.inj (Option.some.inj hclaimed)).1.symm

end Sys2Proof.Machine
end

/-! ## The comparator's links in their order (R75 to R78) -/

section
namespace Sys2Proof.Machine

variable {s t u : State} {l m : LinkId} {kind : Byte} {r : Result} {payload : List Byte} {v : Verification} {o : Operation}

/-- The links of the comparator: the one under comparison, then those that wait. -/
def State.presented (s : State) : List LinkId := s.comparing.toList ++ s.queue

theorem State.inComparator_iff : s.InComparator m ↔ m ∈ s.presented := by
  rw [State.presented, List.mem_append, Option.mem_toList, or_comm]
  exact .rfl

theorem State.comparatorSound_iff : s.ComparatorSound ↔ s.presented.Nodup ∧ (s.comparing = none → s.queue = []) ∧
    ∀ m : LinkId, (m ∈ s.presented ↔ s.buffers[m].isVerifying = true) ∧ (m ∈ s.presented → s.Awaits m 0x12) := by
  have hnodup : s.presented.Nodup ↔ s.queue.Nodup ∧ ∀ l, s.comparing = some l → l ∉ s.queue := by
    unfold State.presented
    cases s.comparing <;> simp [and_comm]
  simp only [State.ComparatorSound, hnodup, State.inComparator_iff, Buffer.isVerifying_iff, and_assoc]

/-- An idle comparator takes the oldest link: the order stays, and none waits for an idle comparator (R76). -/
theorem startComparison_presented : s.startComparison.presented = s.presented ∧
    (s.startComparison.comparing = none → s.startComparison.queue = []) := by
  rw [State.startComparison_eq]
  split
  · rename_i hc
    cases hq : s.queue <;> simp [State.presented, hc, hq]
  · rename_i hc
    exact ⟨rfl, fun h => absurd h hc⟩

theorem startComparison_exchange :
    s.startComparison.links = s.links ∧ s.startComparison.engine = s.engine ∧ s.startComparison.buffers = s.buffers := by
  rw [State.startComparison_eq]
  split <;> exact ⟨rfl, rfl, rfl⟩

theorem State.link_congr (h : t.links = s.links) (m : LinkId) : t.link m = s.link m := by
  rw [State.link, h, State.link]

theorem set_buffer_same (xs : Vector Buffer 8) (l : LinkId) (b : Buffer) : (xs.set l b)[l] = b :=
  Vector.getElem_set_self ..

theorem set_buffer_of_ne (xs : Vector Buffer 8) (b : Buffer) (h : m ≠ l) : (xs.set l b)[m] = xs[m] :=
  Vector.getElem_set_ne l.isLt m.isLt fun e => h (Fin.ext e.symm)

/-- The verification of a free link that awaits its MANIFEST-END joins the comparator (R69, R76). -/
theorem State.Free.queueVerification (h : s.Free l) (ha : s.Awaits l 0x12) (hv : (Buffer.verifying v).Sound) :
    (s.queueVerification l v).Agrees := by
  obtain ⟨⟨hlinks, hclaim⟩, hbuffers, hcompare⟩ := h.agrees
  obtain ⟨hnodup, -, hboth⟩ := State.comparatorSound_iff.1 hcompare
  have hout : l ∉ s.presented := mt State.inComparator_iff.2 h.uncompared
  unfold State.queueVerification
  generalize hq : ({ s.setBuffer l (.verifying v) with queue := s.queue ++ [l] } : State) = q
  have hqlinks : q.links = s.links := hq ▸ rfl
  have hqengine : q.engine = s.engine := hq ▸ rfl
  have hqbuffers : q.buffers = s.buffers.set l (.verifying v) := hq ▸ rfl
  have hqpresented : q.presented = s.presented ++ [l] := by
    subst hq
    exact (List.append_assoc ..).symm
  obtain ⟨hpresented, hidle⟩ := startComparison_presented (s := q)
  obtain ⟨htlinks, htengine, htbuffers⟩ := startComparison_exchange (s := q)
  have hlink := State.link_congr (htlinks.trans hqlinks)
  have hawaits (m : LinkId) (kind : Byte) : s.Awaits m kind → q.startComparison.Awaits m kind := by
    rw [State.Awaits, State.Awaits, hlink]
    exact id
  refine ⟨⟨fun m => by rw [hlink]; exact hlinks m, fun o m ho hm => hawaits m _ (hclaim o m ?_ hm)⟩, fun m => ?_,
    State.comparatorSound_iff.2 ⟨?_, hidle, fun m => ⟨?_, fun hm => ?_⟩⟩⟩
  · rwa [htengine, hqengine] at ho
  · rw [htbuffers, hqbuffers]
    by_cases e : m = l
    · subst e
      rwa [set_buffer_same]
    · rw [set_buffer_of_ne _ _ e]
      exact hbuffers m
  · rw [hpresented, hqpresented, List.nodup_append]
    exact ⟨hnodup, List.nodup_singleton l, fun a ha b hb e => hout (List.mem_singleton.1 hb ▸ e ▸ ha)⟩
  · rw [hpresented, hqpresented, htbuffers, hqbuffers, List.mem_append, List.mem_singleton]
    by_cases e : m = l
    · subst e
      rw [set_buffer_same]
      simp [Buffer.isVerifying]
    · rw [set_buffer_of_ne _ _ e, ← (hboth m).1]
      simp [e]
  · rw [hpresented, hqpresented, List.mem_append, List.mem_singleton] at hm
    rcases hm with hm | rfl
    · exact hawaits m _ ((hboth m).2 hm)
    · exact hawaits m _ ha

/-- A link leaves the comparator with its buffer IDLE; the others are as they were (R71, R77, R78). -/
theorem State.Agrees.leaves (h : s.Agrees) (hp : t.presented = s.presented.filter (· ≠ l))
    (hidle : t.comparing = none → t.queue = []) (hb : t.buffers = s.buffers.set l .idle)
    (hother : ∀ m, m ≠ l → t.link m = s.link m) (hl : (t.link l).Sound) (hclaim : t.ClaimSound) : t.Agrees := by
  obtain ⟨⟨hlinks, -⟩, hbuffers, hcompare⟩ := h
  obtain ⟨hnodup, -, hboth⟩ := State.comparatorSound_iff.1 hcompare
  have hmem (m : LinkId) : m ∈ t.presented ↔ m ∈ s.presented ∧ m ≠ l := by
    rw [hp, List.mem_filter, decide_eq_true_iff]
  refine ⟨⟨fun m => ?_, hclaim⟩, fun m => ?_,
    State.comparatorSound_iff.2 ⟨hp ▸ hnodup.filter _, hidle, fun m => ⟨?_, fun hm => ?_⟩⟩⟩
  · by_cases e : m = l
    · exact e ▸ hl
    · rw [hother m e]
      exact hlinks m
  · rw [hb]
    by_cases e : m = l
    · subst e
      rw [set_buffer_same]
      trivial
    · rw [set_buffer_of_ne _ _ e]
      exact hbuffers m
  · rw [hmem, hb]
    by_cases e : m = l
    · subst e
      rw [set_buffer_same]
      simp [Buffer.isVerifying]
    · rw [set_buffer_of_ne _ _ e, (hboth m).1]
      simp [e]
  · obtain ⟨hin, hne⟩ := (hmem m).1 hm
    rw [State.Awaits, hother m hne]
    exact (hboth m).2 hin

/-- The comparison ends with its response (R77). -/
theorem State.Agrees.comparisonEnded (h : s.Agrees) (hc : s.comparing = some l) :
    (s.comparisonEnded l r payload).Agrees := by
  obtain ⟨⟨hlinks, hclaim⟩, -, hcompare⟩ := id h
  obtain ⟨hnodup, -, hboth⟩ := State.comparatorSound_iff.1 hcompare
  have hpresented : s.presented = l :: s.queue := by simp [State.presented, hc]
  have ha : s.Awaits l 0x12 := (hboth l).2 (by simp [hpresented])
  have hother (m : LinkId) (hm : m ≠ l) : (s.comparisonEnded l r payload).link m = s.link m :=
    State.setLink_link_of_ne s _ hm
  refine h.leaves (l := l) ?_ ?_ rfl hother ?_ fun o m ho hm => ?_
  · have hqueue : s.queue.filter (· ≠ l) = s.queue := by
      rw [hpresented, List.nodup_cons] at hnodup
      exact List.filter_eq_self.2 fun m hm => decide_eq_true fun e => hnodup.1 (e ▸ hm)
    rw [hpresented, List.filter_cons_of_neg (by simp), hqueue]
    cases hq : s.queue <;> simp [State.presented, State.comparisonEnded, hq]
  · cases hq : s.queue <;> simp [State.comparisonEnded, hq]
  · have hlink : (s.comparisonEnded l r payload).link l = (s.link l).answering 0x12 r payload := State.setLink_link ..
    rw [hlink]
    exact (hlinks l).answering ha _
  · have hclaimed := hclaim o m ho hm
    rw [State.Awaits, hother m fun e => ?_]
    · exact hclaimed
    · subst e
      rw [State.Awaits, ha] at hclaimed
      exact o.job.requestKind_ne (Service.mk.inj (Option.some.inj hclaimed)).1.symm

/-- A break takes its link out of the comparator (R71, R78). -/
theorem cancelManifest_presented (h : s.buffers[l].isVerifying = false → l ∉ s.presented)
    (hidle : s.comparing = none → s.queue = []) :
    (s.cancelManifest l).presented = s.presented.filter (· ≠ l) ∧
      ((s.cancelManifest l).comparing = none → (s.cancelManifest l).queue = []) := by
  have hstays (hb : s.buffers[l].isVerifying = false) : s.presented.filter (· ≠ l) = s.presented :=
    List.filter_eq_self.2 fun m hm => decide_eq_true fun e => h hb (e ▸ hm)
  cases hb : s.buffers[l] with
  | idle =>
    rw [hstays (by rw [hb]; rfl)]
    simp only [State.cancelManifest, hb]
    exact ⟨trivial, hidle⟩
  | assembling d es =>
    rw [hstays (by rw [hb]; rfl)]
    simp only [State.cancelManifest, hb]
    exact ⟨rfl, hidle⟩
  | verifying v =>
    simp only [State.cancelManifest, hb]
    obtain ⟨hpresented, hnone⟩ := startComparison_presented (s := { (s.setBuffer l .idle).verificationEnded l with
      queue := s.queue.filter (· ≠ l), comparing := if s.comparing = some l then none else s.comparing })
    refine ⟨hpresented.trans ?_, hnone⟩
    simp only [State.presented, List.filter_append]
    cases s.comparing with
    | none => rfl
    | some m => by_cases e : m = l <;> simp [e]

end Sys2Proof.Machine
end

/-! ## What leaves links, engine, buffers and comparator alone -/

section
namespace Sys2Proof.Machine

variable {s t : State} {l : LinkId} {k : ReqKind} {p : List Byte}

@[simp] theorem State.setArea_exchange (f : FormatNo) (a : FormatArea) : (s.setArea f a).exchange = s.exchange := by
  simp [State.exchange]

@[simp] theorem State.raise_exchange (f : Flag) : (s.raise f).exchange = s.exchange := rfl

@[simp] theorem State.raiseIf_exchange (c : Bool) (f : Flag) : (s.raiseIf c f).exchange = s.exchange := by
  simp [State.exchange]

@[simp] theorem State.setPlanArea_exchange (i : PlanAreaId) (a : PlanArea) :
    (s.setPlanArea i a).exchange = s.exchange := by
  cases i <;> rfl

@[simp] theorem State.sealSteps_exchange (f : FormatNo) (n : Nat) : (s.sealSteps f n).exchange = s.exchange := by
  unfold State.sealSteps
  split
  · rfl
  · exact State.setArea_exchange ..
  · exact State.setArea_exchange ..
  · exact State.setArea_exchange ..
  · exact State.setArea_exchange f (.sealed (s.recordToSeal f))

@[simp] theorem State.retireSteps_exchange (f : FormatNo) (n : Nat) : (s.retireSteps f n).exchange = s.exchange := by
  unfold State.retireSteps
  split
  · rfl
  · exact State.setArea_exchange ..
  · exact State.setArea_exchange ..

@[simp] theorem State.planSteps_exchange (plan : Plan) (n : Nat) : (s.planSteps plan n).exchange = s.exchange := by
  unfold State.planSteps
  split <;> simp

theorem State.scanArea_exchange (fails : List FormatNo) (f : FormatNo) :
    (s.scanArea fails f).exchange = s.exchange := by
  rcases s.scanArea_cases fails f with ⟨-, e⟩ | ⟨r, -, -, e⟩ | ⟨-, -, e⟩
  · rw [e]
  · simp [e, State.exchange]
  · rw [e, State.raise_exchange]
    split
    · rfl
    · exact State.setArea_exchange ..

theorem State.scanAreas_exchange (fails : List FormatNo) (fs : List FormatNo) :
    (fs.foldl (State.scanArea fails) s).exchange = s.exchange := by
  induction fs generalizing s with
  | nil => rfl
  | cons f fs ih => exact ih.trans (State.scanArea_exchange fails f)

theorem State.startUpScan_exchange (fails : List FormatNo) : (s.startUpScan fails).exchange = s.exchange :=
  (State.scanAreas_exchange fails _).trans (State.raiseIf_exchange ..)

@[simp] theorem State.scanErase_exchange (i : PlanAreaId) (fails : Bool) :
    (s.scanErase i fails).exchange = s.exchange := by
  unfold State.scanErase
  split <;> simp

@[simp] theorem State.scanPlanArea_exchange (i : PlanAreaId) (fails : Bool) :
    (s.scanPlanArea i fails).exchange = s.exchange := by
  unfold State.scanPlanArea
  split <;> simp

theorem State.endScan_exchange (a b : Bool) : (s.endScan a b).exchange = s.exchange := by
  have hareas : ((s.scanPlanArea .a a).scanPlanArea .b b).exchange = s.exchange := by simp
  unfold State.endScan
  simp only
  split
  · exact (State.raiseIf_exchange ..).trans ((State.scanErase_exchange ..).trans hareas)
  · exact hareas

theorem State.emptyFormat_exchange (f : FormatNo) : (s.emptyFormat f).exchange = s.exchange := by
  simp [State.exchange, State.emptyFormat]

theorem State.discard_exchange (c : EnrollContext) : (s.discard c).exchange = s.exchange :=
  State.emptyFormat_exchange (s := s) c.format

theorem State.abandon_exchange (c : Changeover) : (s.abandon c).exchange = s.exchange := by
  simp only [State.exchange, State.abandon, State.takeEvent_links, State.takeEvent_engine, State.takeEvent_buffers,
    State.takeEvent_queue, State.takeEvent_comparing, State.raise_links, State.raise_engine, State.raise_buffers,
    State.raise_queue, State.raise_comparing]
  rw [afterAbandon_frame]

theorem State.degrade_exchange (k : SlotId) (verdict : Verdict) (timer : Option Nat) (f : Flag) (e : MonitorEvent) :
    (s.degrade k verdict timer f e).exchange = s.exchange := by
  simp [State.exchange, State.degrade]

theorem State.offer_exchange (v : Verification) (seq : List ClassRecord) : (s.offer v seq).1.exchange = s.exchange := by
  unfold State.offer
  split
  · simp [State.exchange]
  · rfl

/-- The requests whose block writes a buffer or claims the engine. -/
def exchangeKinds : List ReqKind :=
  [.manifestBegin, .manifestPart, .manifestEnd, .formatSeal, .formatRetire, .planWrite]

theorem ownBlock_exchange (h : k ∉ exchangeKinds) (l : LinkId) (p : List Byte) (s : State) :
    (ownBlock l p k s).1.exchange = s.exchange := by
  cases k with
  | manifestBegin | manifestPart | manifestEnd | formatSeal | formatRetire | planWrite => exact absurd (by decide) h
  | ident | statusRead | planRead | monitorRead | lineRestart => rfl
  | slotRead | attentionClear | monitorSet | tripClear =>
    simp only [ownBlock, ownSlotRead, ownAttentionClear, ownMonitorSet, ownTripClear]
    repeat' split
    all_goals rfl
  | lineChange | lineExtend | serviceEnter | serviceLeave =>
    simp only [ownBlock, ownLineChange, ownLineExtend, State.extend, ownServiceEnter, ownServiceLeave, State.leaveService]
    repeat' split
    all_goals rfl
  | lineAbandon =>
    simp only [ownBlock, ownLineAbandon]
    split
    · exact State.abandon_exchange _
    · rfl
  | formatOpen | entryAdd | entryDrop | formatSet =>
    simp only [ownBlock, ownFormatOpen, ownEntryAdd, ownEntryDrop, ownFormatSet]
    repeat' split
    all_goals simp [State.exchange, State.openFormat, State.addEntry, State.dropEntry, State.setFields]
  | formatDiscard =>
    simp only [ownBlock, ownFormatDiscard]
    repeat' split
    all_goals simp only [State.discard_exchange]
  | formatRead | entryRead =>
    simp only [ownBlock, ownFormatRead, ownEntryRead, readRestarts_eq]
    repeat' split
    all_goals rfl

theorem ownBlock_replies (h : k ∉ exchangeKinds) (l : LinkId) (p : List Byte) (s : State) :
    ∃ r payload, (ownBlock l p k s).2 = .reply r payload := by
  by_cases hread : k = .entryRead
  · subst hread
    simp only [ownBlock, ownEntryRead]
    repeat' split
    all_goals exact ⟨_, _, rfl⟩
  · have hk : k ∉ restlessKinds ∧ k ∉ engineKinds := by
      simp only [exchangeKinds, restlessKinds, engineKinds, List.mem_cons, List.not_mem_nil, or_false, not_or] at *
      simp [h, hread]
    have hclean := ownBlock_answersCleanly hk.1 l p s
    unfold AnswersCleanly at hclean
    split at hclean
    · exact ⟨_, _, ‹_›⟩
    · exact absurd hclean hk.2

end Sys2Proof.Machine
end

/-! ## The blocks that write a buffer or claim the engine (R12, R61 to R69) -/

section
namespace Sys2Proof.Machine

variable {s t : State} {l : LinkId} {k : ReqKind} {p : List Byte} {es good : List ManifestEntry}

/-- What a block may leave of a free link's request: free with the answer, or everything agrees with the response to come. -/
def State.Fits (l : LinkId) : State × Answer → Prop
  | (t, .reply _ _) => t.Free l
  | (t, .later) => t.Agrees

theorem State.Fits.conclude {x : State × Answer} (h : State.Fits l x) : (x.2.conclude l x.1).Agrees := by
  obtain ⟨t, answer⟩ := x
  cases answer with
  | reply r payload => exact State.Free.respond h
  | later => exact h

/-- The check of a part passes over every entry of the part, rising from the last block received (R64). -/
theorem checkPart_ok_sound {prev : Word16} {pos : Nat} {xs : List (Option ManifestEntry)}
    (h : checkPart prev pos xs = .ok good) : good.length = xs.length ∧ good.Pairwise (fun a b => a.id < b.id) ∧
      ∀ e ∈ good, prev < e.id ∧ e.id ≠ 0 := by
  induction xs generalizing prev pos good with
  | nil =>
    cases h
    simp
  | cons x xs ih =>
    cases x with
    | none => cases h
    | some e =>
      simp only [checkPart] at h
      split at h
      · cases h
      · split at h
        · cases h
        · rename_i hid hrise
          split at h
          · rename_i rest hrest
            cases h
            obtain ⟨hlen, hasc, hall⟩ := ih hrest
            have hlt : prev < e.id := BitVec.not_le.1 hrise
            refine ⟨congrArg (· + 1) hlen, List.pairwise_cons.2 ⟨fun y hy => (hall y hy).1, hasc⟩, fun y hy => ?_⟩
            rcases List.mem_cons.1 hy with rfl | hy
            · exact ⟨hlt, hid⟩
            · exact ⟨BitVec.lt_trans hlt (hall y hy).1, (hall y hy).2⟩
          · cases h

/-- The last entry of an ascending manifest is above all others. -/
theorem le_lastBlock (hasc : es.Pairwise (fun a b => a.id < b.id)) {e : ManifestEntry} (he : e ∈ es) :
    e.id ≤ lastBlock es := by
  rcases List.eq_nil_or_concat es with rfl | ⟨xs, x, rfl⟩
  · cases he
  · rw [List.concat_eq_append] at hasc he ⊢
    rw [lastBlock_concat]
    rcases List.mem_append.1 he with he | he
    · exact BitVec.le_of_lt ((List.pairwise_append.1 hasc).2.2 e he x (List.mem_singleton_self x))
    · rw [List.mem_singleton.1 he]
      exact BitVec.le_refl _

/-- A part that passes keeps its assembly sound (R64, R65). -/
theorem assembling_sound_append {d pos : Nat} (h : (Buffer.assembling d es).Sound)
    (hfit : es.length + (byteAt p 0).toNat ≤ d) (hok : checkPart (lastBlock es) pos (partEntries p) = .ok good) :
    (Buffer.assembling d (es ++ good)).Sound := by
  obtain ⟨hlo, hhi, -, hasc, hids⟩ := h
  obtain ⟨hlen, hgood, hall⟩ := checkPart_ok_sound hok
  rw [partEntries_length] at hlen
  refine ⟨hlo, hhi, ?_, ?_, fun e he => ?_⟩
  · rw [List.length_append, hlen]
    exact hfit
  · refine List.pairwise_append.2 ⟨hasc, hgood, fun a ha b hb => ?_⟩
    exact Nat.lt_of_le_of_lt (le_lastBlock hasc ha) (hall b hb).1
  · rcases List.mem_append.1 he with he | he
    · exact hids e he
    · exact (hall e he).2

theorem ownManifestBegin_fits (h : s.Free l) : State.Fits l (ownManifestBegin l p s) := by
  unfold ownManifestBegin
  split
  · exact h
  · split
    · exact h
    · rename_i hcount
      obtain ⟨hne, hle⟩ := not_or.1 hcount
      have hpos : 1 ≤ (half p 0).toNat := Nat.pos_of_ne_zero fun e => hne (BitVec.eq_of_toNat_eq e)
      exact h.setBuffer ⟨hpos, Nat.le_of_not_lt hle, Nat.zero_le _, .nil, by simp⟩ rfl

theorem ownManifestPart_fits (h : s.Free l) : State.Fits l (ownManifestPart l p s) := by
  unfold ownManifestPart
  split
  · rename_i d es hb
    split
    · exact h.setBuffer trivial rfl
    · rename_i hfit
      split
      · exact h.setBuffer trivial rfl
      · rename_i good hok
        have hsound := h.agrees.2.1 l
        rw [hb] at hsound
        exact h.setBuffer (assembling_sound_append hsound (Nat.le_of_not_lt hfit) hok) rfl
  · exact h
  · exact h

theorem ownManifestEnd_fits (h : s.Free l) (ha : s.Awaits l 0x12) : State.Fits l (ownManifestEnd l s) := by
  unfold ownManifestEnd
  split
  · rename_i k d es _ hb
    split
    · exact h.setBuffer trivial rfl
    · rename_i hcount
      split
      · exact h.setBuffer trivial rfl
      · split
        · have hsound := h.agrees.2.1 l
          rw [hb] at hsound
          obtain ⟨hlo, hhi, -, hasc, hids⟩ := hsound
          rw [← not_not.1 hcount] at hlo hhi
          exact h.queueVerification ha ⟨hlo, hhi, hasc, hids⟩
        · exact h.setBuffer trivial rfl
  · exact h

theorem ownFormatSeal_fits (h : s.Free l) (ha : s.Awaits l 0x34) : State.Fits l (ownFormatSeal l p s) := by
  unfold ownFormatSeal
  split
  · exact h
  · rename_i c _
    iterate 3
      split
      · exact h
    exact h.claim (o := { job := .seal c.format, claimant := some l })
      (.of_eq (by simp [State.beginSeal]) (by simp [State.beginSeal]) (by simp [State.beginSeal]))
      (by simp [State.beginSeal]) rfl rfl ha

/-- A verification whose format is retired keeps its manifest (R9, R52). -/
theorem beginRetire_keepsDesk (f : FormatNo) : s.KeepsDesk (s.beginRetire l f) := by
  have hbuffer (m : LinkId) : (s.beginRetire l f).buffers[m] = s.loseList f m := by
    show (Vector.ofFn fun j => s.loseList f j)[m.val] = _
    rw [Vector.getElem_ofFn]
  refine ⟨by simp [State.beginRetire, State.emptyFormat], by simp [State.beginRetire, State.emptyFormat],
    fun m => ?_, fun m => ?_⟩
  · rw [hbuffer]
    unfold State.loseList
    cases hb : s.buffers[m] with
    | verifying v =>
      simp only
      split <;> exact id
    | _ => exact id
  · rw [hbuffer]
    unfold State.loseList
    cases hb : s.buffers[m] with
    | verifying v =>
      simp only
      split <;> rfl
    | _ => rfl

theorem ownFormatRetire_fits (h : s.Free l) (ha : s.Awaits l 0x36) : State.Fits l (ownFormatRetire l p s) := by
  unfold ownFormatRetire
  split
  · exact h
  · rename_i f _
    iterate 3
      split
      · exact h
    exact h.claim (o := { job := .retireErase f, claimant := some l }) (beginRetire_keepsDesk f)
      (State.intake_eq_iff.1 (State.beginRetire_intake f)).2 rfl rfl ha

theorem ownPlanWrite_fits (h : s.Free l) (ha : s.Awaits l 0x39) : State.Fits l (ownPlanWrite l p s) := by
  unfold ownPlanWrite
  split
  · exact h
  · rename_i plan _
    iterate 3
      split
      · exact h
    exact h.claim (o := { job := .planWrite plan, claimant := some l }) (.of_eq rfl rfl rfl) rfl rfl rfl ha

/-- A block serves the request of a free link. -/
theorem ownBlock_fits (h : s.Free l) (ha : s.Awaits l (kindCode k)) : State.Fits l (ownBlock l p k s) := by
  by_cases hk : k ∈ exchangeKinds
  · simp only [exchangeKinds, List.mem_cons, List.not_mem_nil, or_false] at hk
    rcases hk with rfl | rfl | rfl | rfl | rfl | rfl
    · exact ownManifestBegin_fits h
    · exact ownManifestPart_fits h
    · exact ownManifestEnd_fits h ha
    · exact ownFormatSeal_fits h ha
    · exact ownFormatRetire_fits h ha
    · exact ownPlanWrite_fits h ha
  · have hsame := ownBlock_exchange hk l p s
    obtain ⟨r, payload, hreply⟩ := ownBlock_replies hk l p s
    cases ho : ownBlock l p k s with
    | mk t answer =>
      rw [ho] at hsame hreply
      cases hreply
      exact h.of_exchange hsame

end Sys2Proof.Machine
end

/-! ## Every step keeps links, engine, buffers and comparator in agreement -/

section
namespace Sys2Proof.Machine

variable {s t : State} {l : LinkId} {k : ReqKind} {p : List Byte}

/-! Requests and frames. -/

/-- A link that attends has nothing long under way (R12, R69). -/
theorem State.Agrees.free (h : s.Agrees) (ha : s.Attends l) : s.Free l := by
  obtain ⟨-, -, hquiet⟩ := ha
  have hnone (kind : Byte) : ¬ s.Awaits l kind := fun hw => by
    rw [State.Awaits, hquiet] at hw
    cases hw
  obtain ⟨-, -, -, -, -, hboth⟩ := id h
  exact ⟨h, fun o ho hl => hnone _ (h.1.2 o l ho hl), fun hin => hnone _ ((hboth l).2 hin)⟩

theorem State.Agrees.received (h : s.Agrees) : (s.received l).Agrees :=
  h.setReceiver .hunt 0 (s.link l).lineLow

theorem State.Agrees.refusesBusy (h : s.Agrees) (kind : Byte) :
    (s.setLink l ({ s.link l with rx := .hunt, gap := 0 }.refuseBusy kind)).Agrees :=
  have hx : Link.Sound { s.link l with rx := .hunt, gap := 0 } := (h.1.1 l).congr rfl rfl rfl
  h.setLink hx.refuseBusy fun _ hw => Link.refuseBusy_waits (x := { s.link l with rx := .hunt, gap := 0 }) hw

theorem State.Agrees.serving (h : s.Agrees) (ha : s.Attends l) (kind : Byte) : (s.serving l kind).Free l :=
  (h.free ha).setLink ((h.1.1 l).begins ha.2.2 ..)

theorem State.Agrees.answered (h : s.Agrees) (ha : s.Attends l) (kind : Byte) (r : Result) (payload : List Byte) :
    (s.answered l kind r payload).Agrees := by
  rw [← State.respond_serving]
  exact (h.serving ha kind).respond

theorem exec_requestCommand_agrees (h : s.Agrees) (ht : exec (requestCommand l k p) s = .next t) : t.Agrees := by
  rw [exec_requestCommand] at ht
  cases ht
  rcases s.serve_cases l k p (ownBlock l p k) with e | ⟨-, e⟩ | ⟨ha, r, e⟩ | ⟨ha, -, e⟩
  · exact e ▸ h.received
  · exact e ▸ h.refusesBusy _
  · exact e ▸ h.answered ha ..
  · rw [e]
    have hawaits : (s.serving l (kindCode k)).Awaits l (kindCode k) := by rw [State.Awaits, State.serving_link]
    exact (ownBlock_fits (h.serving ha _) hawaits).conclude

theorem exec_unknown_agrees {kind : Byte} (h : s.Agrees) (ht : exec (.unknown l kind p) s = .next t) : t.Agrees := by
  cases hr : s.receives l with
  | false =>
    cases ht
    rw [State.take_discards hr]
    exact h.received
  | true =>
    obtain ⟨hrun, hhigh⟩ : s.stage = .running ∧ (s.link l).lineLow = false := by simpa [State.receives] using hr
    cases hb : (s.link l).service with
    | none =>
      have ha : s.Attends l := ⟨hrun, hhigh, hb⟩
      cases (exec_unknown_attends ha kind).symm.trans ht
      exact h.answered ha ..
    | some x =>
      cases ht
      rw [State.take_busy hr (by rw [hb]; rfl)]
      exact h.refusesBusy kind

theorem exec_characterReceived_agrees {ch : Byte} {stop : Bool} (h : s.Agrees)
    (ht : exec (.characterReceived l ch stop) s = .next t) : t.Agrees := by
  have hset (rx : Receiver) : (s.setReceiver l rx).Agrees := h.setReceiver rx 0 (s.link l).lineLow
  change execCharacterReceived l ch stop s = .next t at ht
  unfold execCharacterReceived at ht
  split at ht
  · cases ht
    exact h
  · split at ht
    · unfold deliver at ht
      split at ht
      · cases ht
        split
        · exact hset _
        · exact h
      · cases ht
        exact hset _
      · split at ht
        · cases ht
          exact hset _
        · unfold checkFrame at ht
          simp only at ht
          split at ht
          · rw [takeFrame_eq] at ht
            unfold commandOf at ht
            split at ht
            · exact exec_requestCommand_agrees h ht
            · exact exec_unknown_agrees h ht
          · cases ht
            exact h.received
    · cases ht
      exact h.received

/-! The ends of the engine's operations. -/

theorem exec_sealCompletion_agrees {o : SealOutcome} (h : s.Agrees) (ht : exec (.sealCompletion o) s = .next t) :
    t.Agrees := by
  change execSealCompletion o s = .next t at ht
  unfold execSealCompletion at ht
  split at ht
  · rename_i f c he
    obtain ⟨hl, -, hb, hq, hc⟩ := State.exchange_eq_iff.1 (s.sealSteps_exchange f (sealStepsKept o))
    split at ht
    · cases ht
      exact h.concludes he (.of_eq (by simpa [State.finishSeal] using hb) (by simpa [State.finishSeal] using hq)
        (by simpa [State.finishSeal] using hc)) (by simpa [State.finishSeal] using hl) (by simp [State.finishSeal])
    · cases ht
      exact h.concludes he (.of_eq (by simpa [State.failSeal] using hb) (by simpa [State.failSeal] using hq)
        (by simpa [State.failSeal] using hc)) (by simpa [State.failSeal] using hl) rfl
  · cases ht
    exact h

theorem exec_retireEraseCompletion_agrees {o : RetireOutcome} (h : s.Agrees)
    (ht : exec (.retireEraseCompletion o) s = .next t) : t.Agrees := by
  change execRetireEraseCompletion o s = .next t at ht
  unfold execRetireEraseCompletion at ht
  split at ht
  · rename_i f c he
    have hsame (n : Nat) := State.exchange_eq_iff.1 (s.retireSteps_exchange f n)
    split at ht
    · cases ht
      obtain ⟨hl, -, hb, hq, hc⟩ := hsame 2
      exact h.concludes he (.of_eq hb hq hc) hl rfl
    · cases ht
      obtain ⟨hl, -, hb, hq, hc⟩ := hsame 1
      exact h.concludes he (.of_eq hb hq hc) hl rfl
    · cases ht
      exact h.concludes he (.of_eq rfl rfl rfl) rfl rfl
  · cases ht
    exact h

/-- A link whose role or slot a new plan changes loses its open assembly (R72). -/
theorem takePlan_buffer (plan : Plan) (m : LinkId) : (s.takePlan plan).buffers[m] =
    if s.plan[m] ≠ plan[m] ∧ s.buffers[m].isOpen then .idle else s.buffers[m] := by
  show (Vector.ofFn fun m => if s.plan[m] ≠ plan[m] ∧ s.buffers[m].isOpen then .idle else s.buffers[m])[m.val] = _
  rw [Vector.getElem_ofFn]

/-- The new plan ends assemblies, and no verification. -/
theorem takePlan_keepsDesk (plan : Plan) : s.KeepsDesk (s.takePlan plan) := by
  refine ⟨rfl, rfl, fun m hm => ?_, fun m => ?_⟩
  · rw [takePlan_buffer]
    split
    · trivial
    · exact hm
  · rw [takePlan_buffer]
    split
    · rename_i hopen
      cases hb : s.buffers[m] <;> simp_all [Buffer.isVerifying, Buffer.isOpen]
    · rfl

theorem State.KeepsDesk.trans {u : State} (h : s.KeepsDesk t) (h' : t.KeepsDesk u) : s.KeepsDesk u :=
  ⟨h'.queue.trans h.queue, h'.comparing.trans h.comparing, fun l hl => h'.sound l (h.sound l hl),
    fun l => (h'.verifying l).trans (h.verifying l)⟩

theorem exec_planWriteCompletion_agrees {o : PlanOutcome} (h : s.Agrees)
    (ht : exec (.planWriteCompletion o) s = .next t) : t.Agrees := by
  change execPlanWriteCompletion o s = .next t at ht
  unfold execPlanWriteCompletion at ht
  split at ht
  · rename_i plan c he
    obtain ⟨hl, -, hb, hq, hc⟩ := State.exchange_eq_iff.1 (s.planSteps_exchange plan (planStepsKept o))
    split at ht
    · cases ht
      have hstored : s.KeepsDesk { s.planSteps plan (planStepsKept o) with planCurrent := some s.planTarget } :=
        .of_eq hb hq hc
      refine h.concludes he ((hstored.trans (takePlan_keepsDesk plan)).trans (.of_eq ?_ ?_ ?_)) ?_ ?_
      · simp [State.endPlanWrite]
      · simp [State.endPlanWrite]
      · simp [State.endPlanWrite]
      · simpa [State.endPlanWrite, State.takePlan] using hl
      · simp [State.endPlanWrite]
    · cases ht
      exact h.concludes he (.of_eq hb hq hc) hl rfl
  · cases ht
    exact h

/-! The end of a comparison, and a break. -/

theorem exec_comparisonEnd_agrees (h : s.Agrees) (ht : exec .comparisonEnd s = .next t) : t.Agrees := by
  obtain ⟨-, -, hcompare⟩ := id h
  obtain ⟨-, -, hboth⟩ := State.comparatorSound_iff.1 hcompare
  cases hc : s.comparing with
  | none =>
    change execComparisonEnd s = .next t at ht
    rw [execComparisonEnd, hc] at ht
    cases ht
    exact h
  | some l =>
    have hin : l ∈ s.presented := by simp [State.presented, hc]
    obtain ⟨v, hb⟩ := (Buffer.isVerifying_iff _).1 ((hboth l).1.1 hin)
    rw [exec_comparisonEnd hc hb] at ht
    cases ht
    have hsame := State.offer_exchange (s := s) v (s.sequenceOf v)
    cases ho : s.offer v (s.sequenceOf v) with
    | mk u r =>
      rw [ho] at hsame
      obtain ⟨hl, -, -, -, huc⟩ := State.exchange_eq_iff.1 hsame
      have hawaits : u.Awaits l 0x12 := by
        rw [State.Awaits, State.link_congr hl]
        exact (hboth l).2 hin
      rw [endComparison_eq ho hawaits]
      exact (h.of_exchange hsame).comparisonEnded (huc.trans hc)

theorem exec_linkBreak_agrees (h : s.Agrees) (ht : exec (.linkBreak l) s = .next t) : t.Agrees := by
  obtain ⟨⟨-, hclaim⟩, -, hcompare⟩ := id h
  obtain ⟨-, hidle, hboth⟩ := State.comparatorSound_iff.1 hcompare
  change execLinkBreak l s = .next t at ht
  unfold execLinkBreak at ht
  split at ht
  · cases ht
    exact h
  · cases ht
    generalize hb : ({ s.setLink l (s.link l).broken with engine := s.engine.map (Operation.disown l) } : State) = b
    have hframe := b.cancelManifest_frame l
    obtain ⟨hpresented, hnone⟩ := cancelManifest_presented (s := b) (l := l)
      (by
        subst hb
        intro hquiet hin
        exact absurd ((hboth l).1.1 hin) (Bool.eq_false_iff.1 hquiet))
      (by
        subst hb
        exact hidle)
    have hlink (m : LinkId) : (b.cancelManifest l).link m = b.link m :=
      State.link_congr (by rw [hframe]) m
    have hother (m : LinkId) (e : m ≠ l) : (b.cancelManifest l).link m = s.link m := by
      rw [hlink]
      subst hb
      exact State.setLink_link_of_ne s _ e
    refine h.leaves (hpresented.trans (by subst hb; rfl)) hnone ?_ hother ?_ fun o m ho hm => ?_
    · rw [hframe]
      subst hb
      rfl
    · have hbroken : b.link l = (s.link l).broken := by
        subst hb
        exact State.setLink_link ..
      rw [hlink, hbroken]
      exact Link.sound_of_quiet rfl rfl rfl
    · rw [hframe] at ho
      subst hb
      obtain ⟨o', ho', rfl⟩ := Option.map_eq_some_iff.1 ho
      have hclaimant : o'.claimant = some m ∧ m ≠ l := by
        simp only [Operation.disown] at hm
        split at hm
        · cases hm
        · rename_i hne
          exact ⟨hm, fun e => hne (e ▸ hm)⟩
      rw [State.Awaits, hother m hclaimant.2]
      exact hclaim o' m ho' hclaimant.1

/-! The resets, the timers, and the whole step. -/

/-- Every block at its reset value agrees. -/
theorem agrees_of_blank (hlinks : ∀ m : LinkId, (t.link m).service = none ∧ (t.link m).busySlot = none ∧
    (t.link m).tx = none) (he : t.engine = none) (hb : t.buffers = Vector.replicate 8 .idle) (hq : t.queue = [])
    (hc : t.comparing = none) : t.Agrees := by
  have hbuffer (m : LinkId) : t.buffers[m] = .idle := by
    rw [hb]
    exact Vector.getElem_replicate ..
  have hnone (m : LinkId) : m ∉ t.presented := by simp [State.presented, hq, hc]
  refine ⟨⟨fun m => ?_, fun o l ho => ?_⟩, fun m => ?_, State.comparatorSound_iff.2 ⟨?_, fun _ => hq, fun m => ⟨?_, ?_⟩⟩⟩
  · obtain ⟨h1, h2, h3⟩ := hlinks m
    exact Link.sound_of_quiet h1 h2 h3
  · rw [he] at ho
    cases ho
  · rw [hbuffer]
    trivial
  · simp [State.presented, hq, hc]
  · rw [hbuffer]
    simp [hnone, Buffer.isVerifying]
  · exact fun hm => absurd hm (hnone m)

theorem resetBlocks_agrees (s : State) : s.resetBlocks.Agrees := by
  have hlink (m : LinkId) : s.resetBlocks.link m = { Link.atReset with lineLow := s.links[m].lineLow } := by
    show (Vector.ofFn fun l : LinkId => { Link.atReset with lineLow := s.links[l].lineLow })[m.val] = _
    rw [Vector.getElem_ofFn]
  exact agrees_of_blank (fun m => by rw [hlink]; exact ⟨rfl, rfl, rfl⟩) rfl rfl rfl rfl

theorem exec_powerOn_agrees {n : Nat} {fails : List FormatNo} (ht : exec (.powerOn n fails) s = .next t) : t.Agrees := by
  have hblank (u : State) (h : u.exchange = (s.stopEngine n).resetBlocks.exchange) : u.Agrees :=
    (resetBlocks_agrees _).of_exchange h
  change execPowerOn n fails s = .next t at ht
  unfold execPowerOn at ht
  simp only at ht
  split at ht
  · cases ht
    exact hblank _ rfl
  all_goals
    obtain rfl := Host.Outcome.next.inj ht
    exact hblank _ (State.startUpScan_exchange fails)

theorem exec_pinReset_agrees {n : Nat} (ht : exec (.pinReset n) s = .next t) : t.Agrees := by
  cases ht
  exact (resetBlocks_agrees (s.stopEngine n)).of_exchange rfl

/-- The other commands leave links, engine, buffers and comparator alone, or change a link's receiver or transmitter. -/
theorem exec_agrees {i : Instr} (h : s.Agrees) (ht : exec i s = .next t) : t.Agrees := by
  cases hreq : i.request? with
  | some request =>
    obtain ⟨l, k, p⟩ := request
    rw [request_eq_requestCommand hreq] at ht
    exact exec_requestCommand_agrees h ht
  | none =>
    cases i with
    | powerOn n fails => exact exec_powerOn_agrees ht
    | pinReset n => exact exec_pinReset_agrees ht
    | pinResetRelease fails =>
      change execPinResetRelease fails s = .next t at ht
      unfold execPinResetRelease at ht
      split at ht
      · obtain rfl := Host.Outcome.next.inj ht
        exact h.of_exchange (State.startUpScan_exchange fails)
      all_goals
        cases ht
        exact h
    | scanEnd a b =>
      change execScanEnd a b s = .next t at ht
      unfold execScanEnd at ht
      split at ht
      all_goals cases ht
      · exact h.of_exchange (State.endScan_exchange a b)
      all_goals exact h
    | linkBreak l => exact exec_linkBreak_agrees h ht
    | frameGapTimeout l =>
      cases ht
      split
      · exact h.received
      · exact h
    | crcMismatch l =>
      cases ht
      exact h.received
    | linkLineReturnsHigh l =>
      cases ht
      exact h.setReceiver (s.link l).rx (s.link l).gap false
    | transmitComplete l =>
      cases ht
      exact h.setLink (h.1.1 l).transmitted fun _ => (h.1.1 l).transmitted_waits
    | unknown l kind p => exact exec_unknown_agrees h ht
    | characterReceived l ch stop => exact exec_characterReceived_agrees h ht
    | comparisonEnd => exact exec_comparisonEnd_agrees h ht
    | sealCompletion o => exact exec_sealCompletion_agrees h ht
    | retireEraseCompletion o => exact exec_retireEraseCompletion_agrees h ht
    | planWriteCompletion o => exact exec_planWriteCompletion_agrees h ht
    | residencyTick | rateStrapChange =>
      cases ht
      exact h.of_exchange rfl
    | presentationTimerExpiry k =>
      change execPresentationTimerExpiry k s = .next t at ht
      unfold execPresentationTimerExpiry at ht
      split at ht
      case h_4 =>
        cases ht
        exact h
      all_goals
        cases ht
        exact h.of_exchange (State.degrade_exchange ..)
    | settleTimerExpiry =>
      change execSettleTimerExpiry s = .next t at ht
      unfold execSettleTimerExpiry at ht
      split at ht
      · cases ht
        exact h.of_exchange (by simp [State.exchange])
      all_goals
        cases ht
        exact h
    | idleTimerExpiry =>
      change execIdleTimerExpiry s = .next t at ht
      unfold execIdleTimerExpiry at ht
      split at ht
      · cases ht
        exact h.of_exchange (State.discard_exchange _)
      · cases ht
        exact h
    | _ => cases hreq

/-- A millisecond moves gaps alone (R143). -/
theorem idleStep_agrees (h : s.Agrees) : s.idleStep.Agrees := by
  have hlink (m : LinkId) : s.idleStep.link m = (s.link m).age := (age_link s m).trans (Link.age_eq _).symm
  refine h.of_links (fun m => ?_) (fun m kind hm => ?_) rfl rfl rfl rfl
  · rw [hlink]
    exact (h.1.1 m).congr rfl rfl rfl
  · rw [State.Awaits, hlink]
    exact hm

/-- Settles O59: each command keeps the agreement, by the moves above. -/
theorem linksAndComparatorStaySound : Obligations.LinksAndComparatorStaySound := by
  unfold Obligations.LinksAndComparatorStaySound
  intro s t hlinks hmanifests ht
  have h : s.Agrees := ⟨hlinks, hmanifests⟩
  unfold step at ht
  split at ht
  · cases ht
    exact idleStep_agrees h
  · rename_i rest _
    exact exec_agrees (s := { s with pending := rest }) (h.of_exchange rfl) ht

end Sys2Proof.Machine
end

/-! ## The reset values, and every invariant at reset (R1, R3, R8, R16, R17, R94, R114, R141, R156) -/

section
namespace Sys2Proof.Machine

variable {s t : State} {l : LinkId}

theorem reset_link (l : LinkId) : State.reset.link l = Link.atReset := Vector.getElem_replicate ..

theorem reset_slot (k : SlotId) : State.reset.slots[k] = Slot.atReset := Vector.getElem_replicate ..

theorem reset_counter (i : CounterNo) : State.reset.counters[i] = Counter.atReset := Vector.getElem_replicate ..

theorem reset_buffer (l : LinkId) : State.reset.buffers[l] = .idle := Vector.getElem_replicate ..

theorem reset_residency (i : Fin 5) : State.reset.residency[i] = 0 := Vector.getElem_replicate ..

theorem reset_area (n : FormatNo) : State.reset.areas[n] = .blank := Vector.getElem_replicate ..

/-- Settles O4, block by block. -/
theorem resetValues : Obligations.ResetValues := by
  unfold Obligations.ResetValues
  refine ⟨rfl, rfl, rfl, rfl, reset_slot, reset_counter, reset_residency, rfl, rfl, fun l => ?_, rfl, rfl, rfl, rfl, rfl,
    rfl, rfl, rfl, rfl, rfl⟩
  rw [reset_link, reset_buffer]
  exact ⟨rfl, rfl, rfl, rfl, rfl⟩

/-- No area of a part with blank storage holds a record (R11). -/
theorem reset_not_sealed {n : FormatNo} {r : SealedRecord} : State.reset.areas[n] ≠ .sealed r := by
  rw [reset_area]
  exact nofun

theorem reset_satisfies {P : FormatRecord → Prop} {Q : SealedRecord → Prop} (hP : OfContent P Q) :
    State.reset.RecordsSatisfy P Q :=
  ⟨hP.cleared rfl, fun _ _ hr => absurd hr reset_not_sealed⟩

theorem reset_sealedHold : State.reset.SealedHold := by
  refine sealedHold_iff.2 ⟨fun n hn => ?_, fun n r hr => absurd hr reset_not_sealed⟩
  rw [State.fmt_of_ne _ hn]
  exact holdsWhenSealed_of_state (.inl (by simp [State.reset, FormatRecord.blank]))

theorem reset_timersSound : State.reset.TimersSound := fun k hk => by
  rw [reset_slot] at hk
  cases hk

theorem reset_agrees : State.reset.Agrees :=
  agrees_of_blank (fun m => by rw [reset_link]; exact ⟨rfl, rfl, rfl⟩) rfl rfl rfl rfl

/-- Settles O53, invariant by invariant. -/
theorem invariantsHoldAtReset : Obligations.InvariantsHoldAtReset := by
  unfold Obligations.InvariantsHoldAtReset
  exact ⟨poolConserved_cleared rfl rfl, contextSound_cleared rfl rfl nofun, reset_satisfies lists_ofContent,
    reset_sealedHold, rolesSound_of_noFormat rfl rfl, reset_permitsFollow, nofun, reset_timersSound, reset_tripsEnabled,
    reset_agrees.1, reset_agrees.2, reset_satisfies fields_ofContent, nofun, nofun⟩

end Sys2Proof.Machine
end

/-! ## PIN_RESET and POWER_ON (R17, R40, R74, R94, R114, R125, R140, R141, R156, R162) -/

section
namespace Sys2Proof.Machine

variable {s t : State} {l : LinkId}

/-- The part after PIN_RESET. -/
def State.afterPinReset (n : Nat) (s : State) : State := { (s.stopEngine n).resetBlocks with stage := .held }

theorem exec_pinReset (n : Nat) (s : State) : exec (.pinReset n) s = .next (s.afterPinReset n) := rfl

/-- A link keeps its line level alone (R156). -/
theorem resetBlocks_link (s : State) (l : LinkId) :
    s.resetBlocks.link l = { Link.atReset with lineLow := (s.link l).lineLow } := by
  show (Vector.ofFn fun l : LinkId => { Link.atReset with lineLow := s.links[l].lineLow })[l.val] = _
  rw [Vector.getElem_ofFn]
  rfl

theorem stopEngine_links (n : Nat) (s : State) : (s.stopEngine n).links = s.links :=
  (State.intake_eq_iff.1 (State.stopEngine_intake n)).2

/-- Settles O5: a pin reset block by block, and power-on as a pin reset with its release. -/
theorem resetsClearTheBlocks : Obligations.ResetsClearTheBlocks := by
  unfold Obligations.ResetsClearTheBlocks
  refine ⟨fun n s => ⟨s.afterPinReset n, exec_pinReset n s, rfl, rfl, rfl, rfl, rfl, rfl, reset_slot, reset_counter,
    fun l => ⟨reset_buffer l, ?_⟩, rfl, rfl, rfl, rfl, rfl, ?_, ?_, ?_, ?_⟩,
    fun n fails s => ⟨s.afterPinReset n, exec_pinReset n s, fun hstage => ?_, fun hstage => ?_⟩⟩
  · have hlink : (s.afterPinReset n).link l = (s.stopEngine n).resetBlocks.link l := rfl
    rw [hlink, resetBlocks_link, State.link_congr (stopEngine_links n s)]
    rfl
  · show (s.stopEngine n).residency = _
    rw [State.stopEngine_frame]
  · show (s.stopEngine n).timebase = _
    rw [State.stopEngine_frame]
  · show (s.stopEngine n).rate1 = _
    rw [State.stopEngine_frame]
  · show (s.stopEngine n).rate0 = _
    rw [State.stopEngine_frame]
  · show execPowerOn n fails s = _
    unfold execPowerOn
    simp only
    split
    · exact absurd ‹_› hstage
    all_goals rfl
  · show execPowerOn n fails s = _
    have hkept : (s.stopEngine n).stage = .held := by rw [State.stopEngine_frame]; exact hstage
    have hsame : s.afterPinReset n = (s.stopEngine n).resetBlocks := by
      rw [State.afterPinReset, ← hkept]
      rfl
    simp only [hsame, execPowerOn, hstage]

end Sys2Proof.Machine
end

/-! ## What a stopped operation leaves in storage (R12 to R15) -/

section
namespace Sys2Proof.Machine

variable {s t : State} {f : FormatNo} {n : Nat} {plan : Plan}

/-- With the engine idle, or with no step complete, a stop leaves everything (R12). -/
theorem stopEngine_nothing (h : s.engine = none ∨ n = 0) : s.stopEngine n = s := by
  unfold State.stopEngine
  rcases h with h | rfl
  · rw [h]
  · split <;> rfl

theorem State.setArea_areas (hf : f ≠ 0) (a : FormatArea) : (s.setArea f a).areas = s.areas.set f a := by
  rw [State.setArea, if_neg hf]

/-- The storage after the first steps of a seal (R13). -/
theorem sealSteps_areas (hf : f ≠ 0) : (s.sealSteps f 1).areas = s.areas.set f .blank ∧
    (s.sealSteps f 2).areas = s.areas.set f .written ∧
    (3 ≤ n → (s.sealSteps f n).areas = s.areas.set f (.sealed (s.recordToSeal f))) := by
  refine ⟨State.setArea_areas hf _, State.setArea_areas hf _, fun hn => ?_⟩
  match n, hn with
  | 3, _ => exact State.setArea_areas hf _
  | _ + 4, _ => exact State.setArea_areas hf (.sealed (s.recordToSeal f))

theorem sealSteps_genTable : (n ≤ 3 → (s.sealSteps f n).genTable = s.genTable) ∧
    (4 ≤ n → (s.sealSteps f n).genTable = s.genTable.set f (nextGen (s.genOf f))) := by
  match n with
  | 0 => exact ⟨fun _ => rfl, fun h => absurd h (by decide)⟩
  | 1 | 2 | 3 => exact ⟨fun _ => State.setArea_genTable .., fun h => absurd h (by decide)⟩
  | n + 4 =>
    refine ⟨fun h => absurd h (by omega), fun _ => ?_⟩
    show (s.setArea f (.sealed (s.recordToSeal f))).genTable.set f _ = _
    rw [State.setArea_genTable]

theorem sealSteps_plans : (s.sealSteps f n).planA = s.planA ∧ (s.sealSteps f n).planB = s.planB := by
  match n with
  | 0 => exact ⟨rfl, rfl⟩
  | 1 | 2 | 3 | _ + 4 => exact ⟨State.setArea_planA .., State.setArea_planB ..⟩

/-- The storage after the first steps of a retire-erase (R14). -/
theorem retireSteps_areas (hf : f ≠ 0) : (s.retireSteps f 1).areas = s.areas.set f .retired ∧
    (2 ≤ n → (s.retireSteps f n).areas = s.areas.set f .blank) := by
  refine ⟨State.setArea_areas hf _, fun hn => ?_⟩
  match n, hn with
  | _ + 2, _ => exact State.setArea_areas hf _

theorem retireSteps_others : (s.retireSteps f n).genTable = s.genTable ∧ (s.retireSteps f n).planA = s.planA ∧
    (s.retireSteps f n).planB = s.planB := by
  match n with
  | 0 => exact ⟨rfl, rfl, rfl⟩
  | 1 | _ + 2 => exact ⟨State.setArea_genTable .., State.setArea_planA .., State.setArea_planB ..⟩

/-! The plan areas (R15). -/

@[simp] theorem setPlanArea_same (i : PlanAreaId) (a : PlanArea) : (s.setPlanArea i a).planArea i = a := by
  cases i <;> rfl

@[simp] theorem setPlanArea_other (i : PlanAreaId) (a : PlanArea) :
    (s.setPlanArea i a).planArea i.other = s.planArea i.other := by
  cases i <;> rfl

@[simp] theorem setPlanArea_of_other (i : PlanAreaId) (a : PlanArea) :
    (s.setPlanArea i.other a).planArea i = s.planArea i := by
  cases i <;> rfl

/-- The area a plan write writes, after its first steps (R15). -/
theorem planSteps_target : (s.planSteps plan 1).planArea s.planTarget = .blank ∧
    (s.planSteps plan 2).planArea s.planTarget = .written ∧
    (3 ≤ n → (s.planSteps plan n).planArea s.planTarget = .valid plan s.planTurn) := by
  refine ⟨setPlanArea_same .., setPlanArea_same .., fun hn => ?_⟩
  match n, hn with
  | 3, _ => exact setPlanArea_same ..
  | _ + 4, _ => simp [State.planSteps]

/-- The old area goes last (R15). -/
theorem planSteps_other : (n ≤ 3 → (s.planSteps plan n).planArea s.planTarget.other = s.planArea s.planTarget.other) ∧
    (4 ≤ n → (s.planSteps plan n).planArea s.planTarget.other = .blank) := by
  match n with
  | 0 => exact ⟨fun _ => rfl, fun h => absurd h (by decide)⟩
  | 1 | 2 | 3 => exact ⟨fun _ => setPlanArea_other .., fun h => absurd h (by decide)⟩
  | n + 4 => exact ⟨fun h => absurd h (by omega), fun _ => setPlanArea_same ..⟩

theorem planSteps_records : (s.planSteps plan n).areas = s.areas ∧ (s.planSteps plan n).genTable = s.genTable := by
  have hset (u : State) (i : PlanAreaId) (a : PlanArea) :
      (u.setPlanArea i a).areas = u.areas ∧ (u.setPlanArea i a).genTable = u.genTable := by
    cases i <;> exact ⟨rfl, rfl⟩
  unfold State.planSteps
  split
  · exact ⟨rfl, rfl⟩
  · exact hset ..
  · exact hset ..
  · exact hset ..
  · simp only [hset, and_self]

/-- After 1 comes 2, after 2 comes 3, after 3 comes 1 (R15). -/
theorem Turn.next_cases (turn : Turn) : (turn = .one ∧ turn.next = .two) ∨ (turn = .two ∧ turn.next = .three) ∨
    (turn = .three ∧ turn.next = .one) := by
  cases turn <;> simp [Turn.next]

theorem planTarget_default (h : s.planCurrent = none) : s.planTarget = .a ∧ s.planTurn = .one := by
  simp only [State.planTarget, State.planTurn, h, and_self]

theorem planTarget_current {i : PlanAreaId} {old : Plan} {turn : Turn} (h : s.planCurrent = some i)
    (hv : s.planArea i = .valid old turn) : s.planTarget = i.other ∧ s.planTurn = turn.next := by
  simp only [State.planTarget, State.planTurn, h, hv, and_self]

theorem afterPinReset_storage (n : Nat) (s : State) : (s.afterPinReset n).areas = (s.stopEngine n).areas ∧
    (s.afterPinReset n).genTable = (s.stopEngine n).genTable ∧
    (s.afterPinReset n).genTableGood = (s.stopEngine n).genTableGood ∧
    (s.afterPinReset n).planA = (s.stopEngine n).planA ∧ (s.afterPinReset n).planB = (s.stopEngine n).planB :=
  ⟨rfl, rfl, rfl, rfl, rfl⟩

/-- Settles O6: a pin reset leaves the storage as the stop of the engine leaves it. -/
theorem resetStopsTheEngine : Obligations.ResetStopsTheEngine := by
  unfold Obligations.ResetStopsTheEngine
  intro n s
  refine ⟨s.afterPinReset n, exec_pinReset n s, ?_⟩
  obtain ⟨hareas, htable, hgood, hplanA, hplanB⟩ := afterPinReset_storage n s
  rw [hareas, htable, hgood, hplanA, hplanB]
  refine ⟨fun h => ?_, fun f c g hf he hg => ?_, fun f c hf he => ?_, fun plan c turn he => ?_⟩
  · rw [stopEngine_nothing h]
    exact ⟨rfl, rfl, rfl, rfl, rfl⟩
  · have hstop : s.stopEngine n = s.sealSteps f n := by rw [State.stopEngine, he]
    obtain ⟨h1, h2, h3⟩ := sealSteps_areas (s := s) (n := n) hf
    subst hg
    rw [hstop]
    exact ⟨fun e => e ▸ h1, fun e => e ▸ h2, h3, sealSteps_genTable.1, sealSteps_genTable.2, sealSteps_plans⟩
  · have hstop : s.stopEngine n = s.retireSteps f n := by rw [State.stopEngine, he]
    obtain ⟨h1, h2⟩ := retireSteps_areas (s := s) (n := n) hf
    rw [hstop]
    exact ⟨fun e => e ▸ h1, h2, retireSteps_others⟩
  · have hstop : s.stopEngine n = s.planSteps plan n := by rw [State.stopEngine, he]
    obtain ⟨h1, h2, h3⟩ := planSteps_target (s := s) (n := n) (plan := plan)
    obtain ⟨hkept, hlast⟩ := planSteps_other (s := s) (n := n) (plan := plan)
    rw [hstop]
    refine ⟨planSteps_records.1, planSteps_records.2, fun hcur hturn => ?_, fun old hcur hold => ?_,
      fun old hcur hold => ?_⟩
    · obtain ⟨htarget, hnext⟩ := planTarget_default hcur
      rw [htarget] at h1 h2 h3 hkept hlast
      rw [hnext, ← hturn] at h3
      exact ⟨fun e => e ▸ h1, fun e => e ▸ h2, h3, hkept, hlast⟩
    · obtain ⟨htarget, hnext⟩ := planTarget_current hcur hold
      rw [htarget] at h1 h2 h3 hkept hlast
      exact ⟨fun e => e ▸ h1, fun e => e ▸ h2, fun e => ⟨turn.next, hnext ▸ h3 e, turn.next_cases⟩, hkept, hlast⟩
    · obtain ⟨htarget, hnext⟩ := planTarget_current hcur hold
      rw [htarget] at h1 h2 h3 hkept hlast
      exact ⟨fun e => e ▸ h1, fun e => e ▸ h2, fun e => ⟨turn.next, hnext ▸ h3 e, turn.next_cases⟩, hkept, hlast⟩

end Sys2Proof.Machine
end

/-! ## Rate straps and the frame receiver (R142 to R145) -/

section
namespace Sys2Proof.Machine

variable {s t : State} {l m : LinkId} {ch kind lo hi : Byte} {p cs : List Byte} {len : Nat}

/-- The four bit rates (R142). -/
theorem bitRate_eq (r1 r0 : Bool) (h1 : s.rate1 = r1) (h0 : s.rate0 = r0) :
    (r1 = false → r0 = false → s.bitRate = 115200) ∧ (r1 = false → r0 = true → s.bitRate = 230400) ∧
    (r1 = true → r0 = false → s.bitRate = 460800) ∧ (r1 = true → r0 = true → s.bitRate = 921600) := by
  unfold State.bitRate
  rw [h1, h0]
  refine ⟨?_, ?_, ?_, ?_⟩ <;> rintro rfl rfl <;> rfl

theorem exec_frameGapTimeout_over (hrx : (s.link l).rx ≠ .hunt) (hgap : 5 < (s.link l).gap) :
    exec (.frameGapTimeout l) s = .next (s.received l) :=
  congrArg Host.Outcome.next (if_pos ((Link.gapOver_iff _).2 ⟨hrx, hgap⟩))

theorem exec_frameGapTimeout_early (h : (s.link l).rx = .hunt ∨ (s.link l).gap ≤ 5) :
    exec (.frameGapTimeout l) s = .next s := by
  refine congrArg Host.Outcome.next (if_neg fun hover => ?_)
  obtain ⟨hrx, hgap⟩ := (Link.gapOver_iff _).1 hover
  rcases h with h | h
  · exact hrx h
  · omega

theorem exec_characterReceived_deaf (h : s.stage = .held ∨ (s.link l).lineLow = true) (stop : Bool) :
    exec (.characterReceived l ch stop) s = .next s := by
  show execCharacterReceived l ch stop s = _
  rw [execCharacterReceived, if_pos h]

/-- A character fault discards the frame under reception (R142). -/
theorem exec_characterReceived_fault (h : s.Listens l) :
    exec (.characterReceived l ch false) s = .next (s.received l) := by
  show execCharacterReceived l ch false s = _
  rw [execCharacterReceived, if_neg (by simpa [State.Listens] using h)]
  rfl

/-! The rows of the table of R143 that a well-formed frame does not take. -/

theorem deliver_noise (h : (s.link l).rx = .hunt) (hch : ch ≠ 0xC3) : deliver l ch s = .next s := by
  simp only [deliver, h, if_neg hch]

theorem deliver_tooLong (h : (s.link l).rx = .length) (hch : 196 < ch.toNat) :
    deliver l ch s = .next (s.received l) := by
  have hlong : ¬ ch.toNat ≤ lenLimit := hch.not_ge
  simp only [deliver, h, if_neg hlong]
  rfl

/-- A frame whose CRC does not match is discarded (R144). -/
theorem checkFrame_differs (hlen : p.length = len) (hcrc : crc16 (BitVec.ofNat 8 len :: kind :: p) ≠ hi ++ lo) :
    checkFrame l len (kind :: p ++ [hi, lo]) s = .next (s.received l) := by
  subst hlen
  have htaken : (kind :: p ++ [hi, lo]).take (p.length + 1) = kind :: p := List.take_left' rfl
  have hends : half (kind :: p ++ [hi, lo]) (p.length + 1) = hi ++ lo := by
    rw [half_append_right (by simp)]
    simp [half, byteAt]
  simp only [checkFrame, htaken, hends, if_neg hcrc]
  rfl

/-- The last character of a frame brings it to its check (R143). -/
theorem deliver_frameEnd (h : (s.link l).rx = .body len (kind :: p ++ [hi])) (hlen : p.length = len) :
    deliver l lo s = checkFrame l len (kind :: p ++ [hi, lo]) s := by
  rw [deliver_last h (by simp; omega), List.append_assoc]
  rfl

/-- Settles O10, row by row of the table of R143. -/
theorem strapsAndReceiver : Obligations.StrapsAndReceiver := by
  unfold Obligations.StrapsAndReceiver
  refine ⟨fun r1 r0 s => ⟨_, rfl, rfl, bitRate_eq r1 r0 rfl rfl⟩, fun s l => ⟨exec_frameGapTimeout_over,
    exec_frameGapTimeout_early, rfl, fun ch => ⟨exec_characterReceived_deaf, fun hstage hhigh => ?_⟩⟩⟩
  have hlisten : s.Listens l := ⟨hstage, hhigh⟩
  rw [exec_characterReceived_listens hlisten]
  refine ⟨exec_characterReceived_fault hlisten, fun hrx hch => hch ▸ deliver_sync hrx, deliver_noise, deliver_len,
    deliver_tooLong, fun len cs => deliver_body, fun len kind p hi lo hrx hlen _ hch => ?_⟩
  subst hch
  rw [deliver_frameEnd hrx hlen]
  exact ⟨fun hcrc => checkFrame_matches hlen hcrc.symm, checkFrame_differs hlen⟩

end Sys2Proof.Machine
end

/-! ## Frames that start no service (R144, R145, R147) -/

section
namespace Sys2Proof.Machine

variable {s t : State} {l : LinkId} {x : Link} {kind : Byte}

theorem Link.refuseBusy_full (h : x.busySlot.isSome = true) : x.refuseBusy kind = x := by
  obtain ⟨k, hk⟩ := Option.isSome_iff_exists.1 h
  simp only [Link.refuseBusy, hk]

theorem Link.refuseBusy_waiting (h : x.busySlot = none) (ht : x.tx.isSome = true) :
    x.refuseBusy kind = { x with busySlot := some kind } := by
  obtain ⟨t, ht⟩ := Option.isSome_iff_exists.1 ht
  simp only [Link.refuseBusy, h]
  exact Link.arbitrate_of_sending (t := t) ht

/-- BUSY goes on LTXn at once when nothing waits for the transmitter (R147). -/
theorem Link.refuseBusy_sent (h : x.busySlot = none) (ht : x.tx = none)
    (hs : ∀ k r, x.service ≠ some { kind := k, progress := .ready r }) :
    x.refuseBusy kind = { x with tx := some { isBusy := true, chars := (busyAnswer kind).frame } } := by
  simp only [Link.refuseBusy, h]
  obtain ⟨hsent, -⟩ := Link.arbitrate_no_response (x := { x with busySlot := some kind }) ht hs
  exact hsent kind rfl

/-- Settles O11: a frame is discarded, or only its link's BUSY slot moves. -/
theorem framesThatStartNoService : Obligations.FramesThatStartNoService := by
  unfold Obligations.FramesThatStartNoService
  refine ⟨fun i s l kind p hi hquiet => ?_, fun i s l kind p hi hrun hhigh hbusy => ?_⟩
  · obtain ⟨act, hexec⟩ := exec_frame hi
    have hdeaf : s.receives l = false := by
      rcases hquiet with h | h <;> simp [State.receives, h]
    rw [hexec, State.take_discards hdeaf]
  · obtain ⟨act, hexec⟩ := exec_frame hi
    have hreceives : s.receives l = true := by simp [State.receives, hrun, hhigh]
    rw [hexec, State.take_busy hreceives hbusy]
    refine ⟨fun hfull => ?_, fun hslot htx => ?_, fun hslot htx hready => ?_⟩
    · rw [Link.refuseBusy_full (by exact hfull)]
      rfl
    · rw [Link.refuseBusy_waiting (by exact hslot) (by exact htx)]
    · rw [Link.refuseBusy_sent (by exact hslot) (by exact htx) (by exact hready)]
      rfl

end Sys2Proof.Machine
end

/-! ## A link break (R12, R71, R78, R110, R145) -/

section
namespace Sys2Proof.Machine

variable {s t : State} {l m : LinkId} {v : Verification}

/-- The part before the assembler and the comparator hear of the break. -/
def State.linkBroken (l : LinkId) (s : State) : State :=
  { s.setLink l (s.link l).broken with engine := s.engine.map (Operation.disown l) }

theorem exec_linkBreak_high (h : (s.link l).lineLow = false) :
    exec (.linkBreak l) s = .next ((s.linkBroken l).cancelManifest l) := by
  show execLinkBreak l s = _
  rw [execLinkBreak, if_neg (by rw [h]; decide)]
  rfl

theorem exec_linkBreak_low (h : (s.link l).lineLow = true) : exec (.linkBreak l) s = .next s := by
  show execLinkBreak l s = _
  rw [execLinkBreak, if_pos h]

/-- Without a verification the comparator hears nothing. -/
theorem cancelManifest_quiet (h : ∀ v, s.buffers[l] ≠ .verifying v) :
    (s.cancelManifest l).queue = s.queue ∧ (s.cancelManifest l).comparing = s.comparing ∧
      (s.cancelManifest l).planWaits = s.planWaits := by
  cases hb : s.buffers[l] with
  | idle =>
    simp only [State.cancelManifest, hb]
    exact ⟨trivial, trivial, trivial⟩
  | assembling d es =>
    simp only [State.cancelManifest, hb]
    exact ⟨rfl, rfl, rfl⟩
  | verifying v => exact absurd hb (h v)

theorem startComparison_planWaits : s.startComparison.planWaits = s.planWaits := by
  rw [State.startComparison_eq]
  split <;> rfl

theorem startComparison_none (h : s.comparing = none) :
    s.startComparison.comparing = s.queue.head? ∧ s.startComparison.queue = s.queue.tail := by
  rw [State.startComparison_eq, if_pos h]
  exact ⟨rfl, rfl⟩

theorem startComparison_some (h : s.comparing = some m) : s.startComparison = s := by
  rw [State.startComparison_eq, if_neg (by simp [h])]

/-- A verification leaves the comparator, and the marker waits for it no more (R78, R110). -/
theorem cancelManifest_verifying (h : s.buffers[l] = .verifying v) :
    (s.cancelManifest l).planWaits = s.planWaits &&& ~~~BitVec.twoPow 8 l.val ∧
    (s.comparing = some l → (s.cancelManifest l).comparing = (s.queue.filter (· ≠ l)).head? ∧
      (s.cancelManifest l).queue = (s.queue.filter (· ≠ l)).tail) ∧
    (∀ m, m ≠ l → s.comparing = some m → (s.cancelManifest l).comparing = s.comparing ∧
      (s.cancelManifest l).queue = s.queue.filter (· ≠ l)) := by
  simp only [State.cancelManifest, h]
  refine ⟨startComparison_planWaits, fun hc => startComparison_none (if_pos hc), fun m hm hc => ?_⟩
  have hother : s.comparing ≠ some l := fun e => hm (Option.some.inj (hc.symm.trans e))
  have hstays : (if s.comparing = some l then none else s.comparing) = some m := by rw [if_neg hother, hc]
  rw [startComparison_some hstays]
  exact ⟨hstays.trans hc.symm, rfl⟩

/-- A set of links without one of them. -/
theorem getLsbD_without (set : LinkSet) (l m : LinkId) :
    (set &&& ~~~BitVec.twoPow 8 l.val).getLsbD m.val = (set.getLsbD m.val && m != l) := by
  have hval : m.val = l.val ↔ m = l := Fin.ext_iff.symm
  by_cases h : m = l <;> simp [hval, h]

/-- Settles O13: the link, then its claim, then its assembly or verification. -/
theorem linkBreakEndsItsLink : Obligations.LinkBreakEndsItsLink := by
  unfold Obligations.LinkBreakEndsItsLink
  refine fun s l => ⟨rfl, exec_linkBreak_low, fun hhigh => ⟨_, exec_linkBreak_high hhigh, ?_⟩⟩
  obtain ⟨B, Q, C, W, hB, e⟩ : ∃ B Q C W, B = s.buffers.set l .idle ∧ (s.linkBroken l).cancelManifest l =
      { s.linkBroken l with buffers := B, queue := Q, comparing := C, planWaits := W } :=
    ⟨_, _, _, _, rfl, (s.linkBroken l).cancelManifest_frame l⟩
  have hlink : ((s.linkBroken l).cancelManifest l).links = (s.setLink l (s.link l).broken).links := by rw [e]; rfl
  have hbuffers : ((s.linkBroken l).cancelManifest l).buffers = s.buffers.set l .idle := by rw [e, hB]
  have hengine : ((s.linkBroken l).cancelManifest l).engine = s.engine.map (Operation.disown l) := by rw [e]; rfl
  refine ⟨by rw [e]; rfl, ?_, ?_, fun m hm => ⟨?_, ?_⟩, fun he => ?_, fun job c he => ⟨fun hc => ?_, fun hc => ?_⟩,
    fun hquiet => cancelManifest_quiet (s := s.linkBroken l) hquiet, fun v hv => ?_⟩
  · rw [State.link_congr hlink, State.setLink_link]
    rfl
  · rw [hbuffers, set_buffer_same]
  · rw [State.link_congr hlink, State.setLink_link_of_ne s _ hm]
  · rw [hbuffers, set_buffer_of_ne _ _ hm]
  · rw [hengine, he]
    rfl
  · rw [hengine, he, hc]
    simp [Operation.disown]
  · rw [hengine, he]
    simp [Operation.disown, hc]
  · obtain ⟨hwaits, hserved, hother⟩ := cancelManifest_verifying (s := s.linkBroken l) hv
    exact ⟨fun m => by rw [hwaits, getLsbD_without]; rfl, hserved, hother⟩

end Sys2Proof.Machine
end

/-! ## The end of the start-up scan (R18, R19) -/

section
namespace Sys2Proof.Machine

variable {s t u : State} {i j : PlanAreaId} {a : PlanArea} {p : Plan} {n : Turn} {failA failB : Bool}

/-! Which areas are usable, and the choice between them. -/

theorem usable?_eq_some : a.usable? = some (p, n) ↔ a.Usable p n := by
  unfold PlanArea.Usable
  cases a with
  | valid plan turn =>
    simp only [PlanArea.usable?, PlanArea.valid.injEq, ← planOk_iff]
    split
    · rename_i hok
      simp only [Option.some.injEq, Prod.mk.injEq]
      exact ⟨fun ⟨hp, hn⟩ => ⟨⟨hp, hn⟩, hp ▸ hok⟩, And.left⟩
    · rename_i hbad
      exact ⟨nofun, fun ⟨⟨hp, _⟩, hok⟩ => absurd (hp ▸ hok) hbad⟩
  | _ => simp [PlanArea.usable?]

theorem usable?_eq_none : a.usable? = none ↔ ∀ p n, ¬ a.Usable p n := by
  simp only [← usable?_eq_some, Option.eq_none_iff_forall_ne_some, Prod.forall]

/-- A turn number and its successor (R15). -/
theorem turn_pair_iff (n m : Turn) :
    (n, m) ∈ [(Turn.one, Turn.two), (Turn.two, Turn.three), (Turn.three, Turn.one)] ↔ n.next = m := by
  cases n <;> cases m <;> decide

/-! What the scan writes here: the plan areas and the flags. -/

/-- The two states differ in the plan areas and the flags alone. -/
def State.PlanScanned (s t : State) : Prop :=
  ∃ A B F, t = { s with planA := A, planB := B, attention := F }

theorem State.PlanScanned.refl : s.PlanScanned s := ⟨_, _, _, rfl⟩

theorem State.PlanScanned.trans (h : s.PlanScanned t) (h' : t.PlanScanned u) : s.PlanScanned u := by
  obtain ⟨A, B, F, rfl⟩ := h
  obtain ⟨A', B', F', rfl⟩ := h'
  exact ⟨A', B', F', rfl⟩

theorem raise_planScanned (f : Flag) : s.PlanScanned (s.raise f) := ⟨s.planA, s.planB, _, rfl⟩

theorem raiseIf_planScanned (c : Bool) (f : Flag) : s.PlanScanned (s.raiseIf c f) := by
  unfold State.raiseIf
  split
  · exact raise_planScanned f
  · exact .refl

theorem scanErase_planScanned (i : PlanAreaId) (fails : Bool) : s.PlanScanned (s.scanErase i fails) := by
  unfold State.scanErase
  split
  · exact raise_planScanned .store
  · cases i
    · exact ⟨.blank, s.planB, s.attention, rfl⟩
    · exact ⟨s.planA, .blank, s.attention, rfl⟩

theorem scanPlanArea_planScanned (i : PlanAreaId) (fails : Bool) : s.PlanScanned (s.scanPlanArea i fails) := by
  unfold State.scanPlanArea
  split
  · exact (scanErase_planScanned i fails).trans (raise_planScanned .store)
  · exact .refl

theorem raise_planArea (f : Flag) : (s.raise f).planArea j = s.planArea j := by
  cases j <;> rfl

theorem setPlanArea_planArea (i j : PlanAreaId) (a : PlanArea) :
    (s.setPlanArea i a).planArea j = if j = i then a else s.planArea j := by
  cases i <;> cases j <;> rfl

/-- An erase that succeeds leaves the area blank (R18, R19). -/
theorem scanErase_planArea (i j : PlanAreaId) (fails : Bool) :
    (s.scanErase i fails).planArea j = if j = i ∧ fails = false then .blank else s.planArea j := by
  unfold State.scanErase
  cases fails with
  | true => simp [raise_planArea]
  | false => simp [setPlanArea_planArea]

theorem scanErase_flagged (i : PlanAreaId) (fails : Bool) (f : Flag) :
    (s.scanErase i fails).flagged f = (s.flagged f || (fails && decide (f = .store))) := by
  unfold State.scanErase
  cases fails with
  | true => simp [State.raise_flagged]
  | false => cases i <;> simp [State.setPlanArea, State.flagged]

/-- The area is written but not usable (R19). -/
def PlanArea.Spoiled (a : PlanArea) : Prop := a ≠ .blank ∧ a.usable? = none

/-- An area that is not usable is blank after its visit, unless its erase fails (R19). -/
theorem scanPlanArea_planArea (i j : PlanAreaId) (fails : Bool) : (s.scanPlanArea i fails).planArea j =
    if j = i ∧ fails = false ∧ (s.planArea i).usable? = none then .blank else s.planArea j := by
  unfold State.scanPlanArea
  by_cases hspoiled : s.planArea i ≠ .blank ∧ (s.planArea i).usable? = none
  · rw [if_pos hspoiled, raise_planArea, scanErase_planArea]
    simp [hspoiled.2]
  · rw [if_neg hspoiled]
    split
    · rename_i h
      obtain ⟨rfl, -, hnone⟩ := h
      by_contra hne
      exact hspoiled ⟨hne, hnone⟩
    · rfl

theorem scanPlanArea_flagged (i : PlanAreaId) (fails : Bool) (f : Flag) :
    (s.scanPlanArea i fails).flagged f = true ↔ s.flagged f = true ∨ (s.planArea i).Spoiled ∧ f = .store := by
  unfold State.scanPlanArea PlanArea.Spoiled
  split
  · rename_i hspoiled
    rw [State.raise_flagged, scanErase_flagged]
    simp only [Bool.or_eq_true, Bool.and_eq_true, decide_eq_true_iff, hspoiled, true_and, ne_eq, not_false_iff]
    tauto
  · rename_i hfine
    simp [hfine]

/-! The two visits together. -/

/-- The part after the visits to both areas. -/
def State.plansScanned (failA failB : Bool) (s : State) : State := (s.scanPlanArea .a failA).scanPlanArea .b failB

theorem plansScanned_planScanned : s.PlanScanned (s.plansScanned failA failB) :=
  (scanPlanArea_planScanned .a failA).trans (scanPlanArea_planScanned .b failB)

theorem plansScanned_planA : (s.plansScanned failA failB).planA =
    if failA = false ∧ s.planA.usable? = none then .blank else s.planA := by
  show (s.plansScanned failA failB).planArea .a = _
  rw [State.plansScanned, scanPlanArea_planArea, if_neg (by simp), scanPlanArea_planArea]
  simp [State.planArea]

theorem plansScanned_planB : (s.plansScanned failA failB).planB =
    if failB = false ∧ s.planB.usable? = none then .blank else s.planB := by
  show (s.plansScanned failA failB).planArea .b = _
  have hkept : (s.scanPlanArea .a failA).planArea .b = s.planArea .b := by
    rw [scanPlanArea_planArea, if_neg (by simp)]
  rw [State.plansScanned, scanPlanArea_planArea, hkept]
  simp [State.planArea]

theorem plansScanned_flagged (f : Flag) : (s.plansScanned failA failB).flagged f = true ↔
    s.flagged f = true ∨ (s.planA.Spoiled ∨ s.planB.Spoiled) ∧ f = .store := by
  have hkept : (s.scanPlanArea .a failA).planArea .b = s.planB := by
    rw [scanPlanArea_planArea, if_neg (by simp)]
    rfl
  rw [State.plansScanned, scanPlanArea_flagged, scanPlanArea_flagged, hkept]
  have ha : s.planArea .a = s.planA := rfl
  rw [ha]
  tauto

/-! The choice, and the erase of the area it leaves. -/

/-- The usable area that is not chosen is erased; with equal turns attention STORE is set (R19). -/
def State.eraseOld (old : Option (PlanAreaId × Bool)) (failA failB : Bool) (s : State) : State :=
  match old with
  | some (i, store) => (s.scanErase i (if i = .a then failA else failB)).raiseIf store .store
  | none => s

theorem endScan_eq : s.endScan failA failB =
    { (s.plansScanned failA failB).eraseOld (choosePlan s.planA.usable? s.planB.usable?).2.2 failA failB with
      plan := (choosePlan s.planA.usable? s.planB.usable?).1
      planCurrent := (choosePlan s.planA.usable? s.planB.usable?).2.1
      stage := .running } := by
  unfold State.endScan State.eraseOld
  generalize choosePlan s.planA.usable? s.planB.usable? = choice
  obtain ⟨plan, current, old⟩ := choice
  cases old <;> rfl

theorem eraseOld_planScanned (old : Option (PlanAreaId × Bool)) : s.PlanScanned (s.eraseOld old failA failB) := by
  unfold State.eraseOld
  split
  · exact (scanErase_planScanned ..).trans (raiseIf_planScanned ..)
  · exact .refl

/-- Whether the erase of an area fails. -/
def PlanAreaId.fails (failA failB : Bool) : PlanAreaId → Bool
  | .a => failA
  | .b => failB

theorem eraseOld_planArea (store : Bool) : (s.eraseOld (some (i, store)) failA failB).planArea j =
    if j = i ∧ i.fails failA failB = false then .blank else s.planArea j := by
  have hraise (u : State) : (u.raiseIf store .store).planArea j = u.planArea j := by
    unfold State.raiseIf
    split
    · exact raise_planArea ..
    · rfl
  show ((s.scanErase i (if i = .a then failA else failB)).raiseIf store .store).planArea j = _
  rw [hraise, scanErase_planArea]
  cases i <;> rfl

theorem eraseOld_flagged (store : Bool) (f : Flag) : (s.eraseOld (some (i, store)) failA failB).flagged f = true ↔
    s.flagged f = true ∨ (store = true ∨ i.fails failA failB = true) ∧ f = .store := by
  show ((s.scanErase i (if i = .a then failA else failB)).raiseIf store .store).flagged f = true ↔ _
  have hfails : (if i = .a then failA else failB) = i.fails failA failB := by cases i <;> rfl
  rw [State.raiseIf_flagged, scanErase_flagged, hfails]
  simp only [Bool.or_eq_true, Bool.and_eq_true, decide_eq_true_iff]
  tauto

/-! The outcome, by what is usable. -/

/-- Of two turn numbers at most one follows the other, and none follows itself (R15). -/
theorem Turn.next_asymm {n m : Turn} (h : m.next = n) : n ≠ m ∧ n.next ≠ m := by
  subst h
  cases m <;> decide

theorem endScan_frame : s.endScan failA failB =
    { s with
      stage := .running
      plan := (s.endScan failA failB).plan
      planCurrent := (s.endScan failA failB).planCurrent
      planA := (s.endScan failA failB).planA
      planB := (s.endScan failA failB).planB
      attention := (s.endScan failA failB).attention } := by
  rw [endScan_eq]
  obtain ⟨A, B, F, h⟩ := plansScanned_planScanned.trans (eraseOld_planScanned
    (s := s.plansScanned failA failB) (failA := failA) (failB := failB) (choosePlan s.planA.usable? s.planB.usable?).2.2)
  rw [h]

/-- The two plan areas, the plan area in force and the flags after the scan, when the choice is known (R18, R19). -/
theorem endScan_of_choice {plan : Plan} {current : Option PlanAreaId} {old : Option (PlanAreaId × Bool)}
    (h : choosePlan s.planA.usable? s.planB.usable? = (plan, current, old)) :
    (s.endScan failA failB).plan = plan ∧ (s.endScan failA failB).planCurrent = current ∧
    (s.endScan failA failB).planA = ((s.plansScanned failA failB).eraseOld old failA failB).planA ∧
    (s.endScan failA failB).planB = ((s.plansScanned failA failB).eraseOld old failA failB).planB ∧
    ∀ f, (s.endScan failA failB).flagged f = ((s.plansScanned failA failB).eraseOld old failA failB).flagged f := by
  rw [endScan_eq, h]
  exact ⟨rfl, rfl, rfl, rfl, fun _ => rfl⟩

/-- The turns of two usable areas: equal, or one follows the other (R19). -/
theorem Turn.trichotomy (n m : Turn) : n = m ∨ n.next = m ∨ m.next = n := by
  cases n <;> cases m <;> decide

section
variable {pa pb : Plan} {na nb : Turn}

/-- With no usable area, or one, each area that is not the one in force is erased if written (R19). -/
theorem endScan_unrivalled {plan : Plan} {current : Option PlanAreaId}
    (h : choosePlan s.planA.usable? s.planB.usable? = (plan, current, none))
    (ha : s.planA.usable? = none ↔ current ≠ some .a) (hb : s.planB.usable? = none ↔ current ≠ some .b) :
    ((s.endScan failA failB).planA =
      if (s.endScan failA failB).planCurrent = some .a ∨ failA = true then s.planA else .blank) ∧
    ((s.endScan failA failB).planB =
      if (s.endScan failA failB).planCurrent = some .b ∨ failB = true then s.planB else .blank) ∧
    ∀ f, (s.endScan failA failB).flagged f = true ↔
      s.flagged f = true ∨ (s.planA.Spoiled ∨ s.planB.Spoiled) ∧ f = .store := by
  obtain ⟨-, hcurrent, hplanA, hplanB, hflags⟩ := endScan_of_choice (failA := failA) (failB := failB) h
  rw [hplanA, hplanB, hcurrent]
  refine ⟨plansScanned_planA.trans ?_, plansScanned_planB.trans ?_, fun f => ?_⟩
  · by_cases e : current = some .a <;> cases failA <;> simp [ha, e]
  · by_cases e : current = some .b <;> cases failB <;> simp [hb, e]
  · rw [hflags]
    exact plansScanned_flagged f

/-- With two usable areas the one that is not chosen is erased (R19). -/
theorem endScan_rivals {plan : Plan} {store : Bool}
    (h : choosePlan s.planA.usable? s.planB.usable? = (plan, some i.other, some (i, store)))
    (ha : s.planA.usable? = some (pa, na)) (hb : s.planB.usable? = some (pb, nb)) :
    ((s.endScan failA failB).planA =
      if (s.endScan failA failB).planCurrent = some .a ∨ failA = true then s.planA else .blank) ∧
    ((s.endScan failA failB).planB =
      if (s.endScan failA failB).planCurrent = some .b ∨ failB = true then s.planB else .blank) ∧
    ∀ f, (s.endScan failA failB).flagged f = true ↔
      s.flagged f = true ∨ (store = true ∨ i.fails failA failB = true) ∧ f = .store := by
  obtain ⟨-, hcurrent, hplanA, hplanB, hflags⟩ := endScan_of_choice (failA := failA) (failB := failB) h
  have hkeptA : (s.plansScanned failA failB).planArea .a = s.planA :=
    plansScanned_planA.trans (if_neg (by simp [ha]))
  have hkeptB : (s.plansScanned failA failB).planArea .b = s.planB :=
    plansScanned_planB.trans (if_neg (by simp [hb]))
  have hareaA := eraseOld_planArea (s := s.plansScanned failA failB) (i := i) (j := .a) (failA := failA)
    (failB := failB) store
  have hareaB := eraseOld_planArea (s := s.plansScanned failA failB) (i := i) (j := .b) (failA := failA)
    (failB := failB) store
  rw [hkeptA] at hareaA
  rw [hkeptB] at hareaB
  rw [hplanA, hplanB, hcurrent]
  refine ⟨hareaA.trans ?_, hareaB.trans ?_, fun f => ?_⟩
  · cases i <;> cases failA <;> simp [PlanAreaId.other, PlanAreaId.fails]
  · cases i <;> cases failB <;> simp [PlanAreaId.other, PlanAreaId.fails]
  · rw [hflags, eraseOld_flagged, plansScanned_flagged]
    simp [PlanArea.Spoiled, ha, hb]

end

theorem choosePlan_rivals (pa pb : Plan) (na nb : Turn) :
    (na = nb → choosePlan (some (pa, na)) (some (pb, nb)) = (pa, some .a, some (.b, true))) ∧
    (na.next = nb → choosePlan (some (pa, na)) (some (pb, nb)) = (pb, some .b, some (.a, false))) ∧
    (nb.next = na → choosePlan (some (pa, na)) (some (pb, nb)) = (pa, some .a, some (.b, false))) := by
  refine ⟨fun h => ?_, fun h => ?_, fun h => ?_⟩
  · simp only [choosePlan, if_pos h]
  · obtain ⟨hne, -⟩ := Turn.next_asymm h
    simp only [choosePlan, if_neg hne.symm, if_pos h]
  · obtain ⟨hne, hnot⟩ := Turn.next_asymm h
    simp only [choosePlan, if_neg hne, if_neg hnot]

theorem exec_scanEnd (h : s.stage = .scanning) : exec (.scanEnd failA failB) s = .next (s.endScan failA failB) := by
  show execScanEnd failA failB s = _
  simp only [execScanEnd, h]

/-- Settles O8, by what is usable: none, one, or both, and then by the turns. -/
theorem scanEndChoosesThePlan : Obligations.ScanEndChoosesThePlan := by
  unfold Obligations.ScanEndChoosesThePlan
  intro failA failB s hs
  refine ⟨_, exec_scanEnd hs, endScan_frame, ?_⟩
  simp only [← usable?_eq_none]
  simp only [← usable?_eq_some, turn_pair_iff]
  have hchosen {plan current old} (h : choosePlan s.planA.usable? s.planB.usable? = (plan, current, old)) :
      (s.endScan failA failB).plan = plan ∧ (s.endScan failA failB).planCurrent = current := by
    obtain ⟨hplan, hcurrent, -⟩ := endScan_of_choice (failA := failA) (failB := failB) h
    exact ⟨hplan, hcurrent⟩
  cases ha : s.planA.usable? with
  | none =>
    cases hb : s.planB.usable? with
    | none =>
      have hchoice : choosePlan s.planA.usable? s.planB.usable? = (defaultPlan, none, none) := by rw [ha, hb]; rfl
      obtain ⟨hA, hB, hflags⟩ := endScan_unrivalled (failA := failA) (failB := failB) hchoice (by simp [ha]) (by simp [hb])
      refine ⟨fun _ _ => (hchosen hchoice).symm, nofun, nofun, nofun, hA, hB, fun f hf => ?_, ?_⟩
      · simpa [hf] using hflags f
      · simpa [PlanArea.Spoiled, ha, hb] using hflags .store
    | some y =>
      obtain ⟨pb, nb⟩ := y
      have hchoice : choosePlan s.planA.usable? s.planB.usable? = (pb, some .b, none) := by rw [ha, hb]; rfl
      obtain ⟨hA, hB, hflags⟩ := endScan_unrivalled (failA := failA) (failB := failB) hchoice (by simp [ha]) (by simp [hb])
      refine ⟨fun _ => nofun, nofun, fun q m e _ => ?_, nofun, hA, hB, fun f hf => ?_, ?_⟩
      · cases e
        exact hchosen hchoice
      · simpa [hf] using hflags f
      · simpa [PlanArea.Spoiled, ha, hb] using hflags .store
  | some x =>
    obtain ⟨pa, na⟩ := x
    cases hb : s.planB.usable? with
    | none =>
      have hchoice : choosePlan s.planA.usable? s.planB.usable? = (pa, some .a, none) := by rw [ha, hb]; rfl
      obtain ⟨hA, hB, hflags⟩ := endScan_unrivalled (failA := failA) (failB := failB) hchoice (by simp [ha]) (by simp [hb])
      refine ⟨nofun, fun q m e _ => ?_, nofun, fun _ _ _ _ _ => nofun, hA, hB, fun f hf => ?_, ?_⟩
      · cases e
        exact hchosen hchoice
      · simpa [hf] using hflags f
      · simpa [PlanArea.Spoiled, ha, hb] using hflags .store
    | some y =>
      obtain ⟨pb, nb⟩ := y
      obtain ⟨hsame, hbefore, hafter⟩ := choosePlan_rivals pa pb na nb
      rw [← ha, ← hb] at hsame hbefore hafter
      refine ⟨nofun, fun _ _ _ => nofun, fun _ _ _ => nofun, fun p n q m ep eq => ?_, ?_⟩
      · cases ep
        cases eq
        exact ⟨fun e => hchosen (hsame e), fun e => hchosen (hbefore e), fun e => hchosen (hafter e)⟩
      · rcases Turn.trichotomy na nb with e | e | e
        · obtain ⟨-, hcurrent⟩ := hchosen (hsame e)
          obtain ⟨hA, hB, hflags⟩ := endScan_rivals (failA := failA) (failB := failB) (i := .b) (hsame e) ha hb
          refine ⟨hA, hB, fun f hf => ?_, ?_⟩
          · simpa [hf] using hflags f
          · simpa [e] using hflags .store
        · obtain ⟨-, hcurrent⟩ := hchosen (hbefore e)
          obtain ⟨hne, -⟩ := Turn.next_asymm e
          obtain ⟨hA, hB, hflags⟩ := endScan_rivals (failA := failA) (failB := failB) (i := .a) (hbefore e) ha hb
          refine ⟨hA, hB, fun f hf => ?_, ?_⟩
          · simpa [hf] using hflags f
          · simpa [hcurrent, hne.symm, PlanAreaId.fails] using hflags .store
        · obtain ⟨-, hcurrent⟩ := hchosen (hafter e)
          obtain ⟨hne, -⟩ := Turn.next_asymm e
          obtain ⟨hA, hB, hflags⟩ := endScan_rivals (failA := failA) (failB := failB) (i := .b) (hafter e) ha hb
          refine ⟨hA, hB, fun f hf => ?_, ?_⟩
          · simpa [hf] using hflags f
          · simpa [hcurrent, hne, PlanAreaId.fails] using hflags .store

end Sys2Proof.Machine
end

/-! ## One visit of the start-up scan (R18) -/

section
namespace Sys2Proof.Machine

variable {s t u : State} {f g : FormatNo} {fails : List FormatNo}

/-- The record of a sealed area fits into the free pool. -/
def FormatArea.FitsIn (a : FormatArea) (free : Nat) : Prop :=
  ∃ r, a = .sealed r ∧ r.restored.entryCount ≤ free

/-- A visit that restores a record. -/
theorem scanArea_restores {r : SealedRecord} (hf : f ≠ 0) (ha : s.areas[f] = .sealed r)
    (hfit : r.restored.entryCount ≤ s.poolFree) : (s.scanArea fails f).fmt f = r.restored ∧
      (s.scanArea fails f).genOf f = r.generation ∧ (s.scanArea fails f).areas = s.areas ∧
      (s.scanArea fails f).poolFree + r.restored.entryCount = s.poolFree ∧
      ∀ fl, (s.scanArea fails f).flagged fl = s.flagged fl := by
  have e : s.scanArea fails f = { (s.setFmt f r.restored).setGen f r.generation with
      poolFree := s.poolFree - r.restored.entryCount } := by
    simp only [State.scanArea, ha, if_pos hfit]
  rw [e]
  refine ⟨?_, ?_, ?_, Nat.sub_add_cancel hfit, fun fl => ?_⟩
  · rw [State.fmt_congr (s := s.setFmt f r.restored) (by simp), State.setFmt_fmt, if_pos ⟨rfl, hf⟩]
  · refine (State.genOf_congr (s := (s.setFmt f r.restored).setGen f r.generation) rfl f).trans ?_
    rw [State.setGen_genOf, if_pos ⟨rfl, hf⟩]
  · simp
  · simp [State.flagged]

/-- A visit that restores nothing erases what is written, and says so (R18). -/
theorem scanArea_erases (hf : f ≠ 0) (hfit : ¬ s.areas[f].FitsIn s.poolFree) :
    (s.scanArea fails f).formats = s.formats ∧ (s.scanArea fails f).gens = s.gens ∧
      (s.scanArea fails f).poolFree = s.poolFree ∧
      (s.scanArea fails f).areas[f] = (if f ∈ fails then s.areas[f] else .blank) ∧
      ∀ fl, (s.scanArea fails f).flagged fl = true ↔ s.flagged fl = true ∨ s.areas[f] ≠ .blank ∧ fl = .store := by
  rcases s.scanArea_cases fails f with ⟨ha, e⟩ | ⟨r, ha, hle, -⟩ | ⟨hne, -, e⟩
  · rw [e]
    refine ⟨rfl, rfl, rfl, ?_, fun fl => ?_⟩
    · rw [ha, ite_self]
    · simp [ha]
  · exact absurd ⟨r, ha, hle⟩ hfit
  · have hflagged (u : State) (hu : u.attention = s.attention) (fl : Flag) : (u.raise .store).flagged fl = true ↔
        s.flagged fl = true ∨ s.areas[f] ≠ .blank ∧ fl = .store := by
      rw [State.raise_flagged, State.flagged, hu]
      simp only [Bool.or_eq_true, decide_eq_true_iff, hne, ne_eq, not_false_iff, true_and]
      rfl
    rw [e]
    by_cases hfail : f ∈ fails
    · rw [if_pos hfail, if_pos hfail]
      exact ⟨rfl, rfl, rfl, rfl, hflagged s rfl⟩
    · rw [if_neg hfail, if_neg hfail]
      refine ⟨by simp, by simp, by simp, ?_, hflagged _ (by simp)⟩
      rw [State.raise_areas, State.setArea_area, if_pos ⟨rfl, hf⟩]

/-- What a visit to `f` leaves of another number. -/
theorem scanArea_other (h : g ≠ f) : (s.scanArea fails f).fmt g = s.fmt g ∧
    (s.scanArea fails f).genOf g = s.genOf g ∧ (s.scanArea fails f).areas[g] = s.areas[g] := by
  rcases s.scanArea_cases fails f with ⟨-, e⟩ | ⟨r, -, -, e⟩ | ⟨-, -, e⟩
  · rw [e]
    exact ⟨rfl, rfl, rfl⟩
  · rw [e]
    refine ⟨?_, ?_, by simp⟩
    · rw [State.fmt_congr (s := s.setFmt f r.restored) (by simp), State.setFmt_fmt, if_neg fun h' => h h'.1]
    · refine (State.genOf_congr (s := (s.setFmt f r.restored).setGen f r.generation) rfl g).trans ?_
      rw [State.setGen_genOf, if_neg fun h' => h h'.1]
      exact State.genOf_congr (by simp) g
  · rw [e]
    by_cases hfail : f ∈ fails
    · rw [if_pos hfail]
      exact ⟨rfl, rfl, rfl⟩
    · rw [if_neg hfail]
      refine ⟨State.fmt_congr (by simp) g, State.genOf_congr (by simp) g, ?_⟩
      rw [State.raise_areas, State.setArea_area, if_neg fun h' => h h'.1]

/-- A visit to an EMPTY record takes from the pool what the record then holds (R8). -/
theorem scanArea_pool (hf : f ≠ 0) (hempty : (s.fmt f).entryCount = 0) :
    (s.scanArea fails f).poolFree + ((s.scanArea fails f).fmt f).entryCount = s.poolFree := by
  by_cases hfit : s.areas[f].FitsIn s.poolFree
  · obtain ⟨r, ha, hle⟩ := hfit
    obtain ⟨hfmt, -, -, hpool, -⟩ := scanArea_restores (fails := fails) hf ha hle
    rw [hfmt, hpool]
  · obtain ⟨hformats, -, hpool, -⟩ := scanArea_erases (fails := fails) hf hfit
    rw [State.fmt_congr hformats, hempty, hpool, Nat.add_zero]

/-- The two states differ in what the scan of the record areas writes. -/
def State.AreasScanned (s t : State) : Prop :=
  ∃ F G P A B, t = { s with formats := F, gens := G, poolFree := P, areas := A, attention := B }

theorem State.AreasScanned.trans (h : s.AreasScanned t) (h' : t.AreasScanned u) : s.AreasScanned u := by
  obtain ⟨F, G, P, A, B, rfl⟩ := h
  obtain ⟨F', G', P', A', B', rfl⟩ := h'
  exact ⟨F', G', P', A', B', rfl⟩

theorem State.AreasScanned.refl : s.AreasScanned s := ⟨_, _, _, _, _, rfl⟩

theorem scanArea_areasScanned (fails : List FormatNo) (f : FormatNo) : s.AreasScanned (s.scanArea fails f) := by
  rcases s.scanArea_cases fails f with ⟨-, e⟩ | ⟨r, -, -, e⟩ | ⟨-, -, e⟩
  · rw [e]
    exact .refl
  · rw [e]
    unfold State.setFmt State.setGen
    split <;> exact ⟨_, _, _, _, _, rfl⟩
  · rw [e]
    unfold State.setArea
    repeat' split
    all_goals exact ⟨_, _, _, _, _, rfl⟩

end Sys2Proof.Machine
end

/-! ## The visits one after another -/

section
namespace Sys2Proof.Machine

variable {s t : State} {f g : FormatNo} {fails fs pre post : List FormatNo}

/-- The part after the visits to the areas `fs`. -/
def State.visited (fails fs : List FormatNo) (s : State) : State := fs.foldl (State.scanArea fails) s

@[simp] theorem visited_nil : s.visited fails [] = s := rfl

@[simp] theorem visited_cons : s.visited fails (f :: fs) = (s.scanArea fails f).visited fails fs := rfl

theorem visited_append : s.visited fails (pre ++ post) = (s.visited fails pre).visited fails post := List.foldl_append

theorem visited_areasScanned (fails fs : List FormatNo) (s : State) : s.AreasScanned (s.visited fails fs) := by
  induction fs generalizing s with
  | nil => exact .refl
  | cons f fs ih => exact (scanArea_areasScanned fails f).trans (ih _)

/-- A number that is not visited stays. -/
theorem visited_other (h : g ∉ fs) : (s.visited fails fs).fmt g = s.fmt g ∧
    (s.visited fails fs).genOf g = s.genOf g ∧ (s.visited fails fs).areas[g] = s.areas[g] := by
  induction fs generalizing s with
  | nil => exact ⟨rfl, rfl, rfl⟩
  | cons f fs ih =>
    obtain ⟨hne, hout⟩ := not_or.1 (mt List.mem_cons.2 h)
    obtain ⟨h1, h2, h3⟩ := ih (s := s.scanArea fails f) hout
    obtain ⟨h1', h2', h3'⟩ := scanArea_other (s := s) (fails := fails) hne
    exact ⟨h1.trans h1', h2.trans h2', h3.trans h3'⟩

/-- What the visits to `pre` leave in the pool is what their records do not hold in the end (R8). -/
theorem visited_pool (hnodup : (pre ++ post).Nodup) (hzero : ∀ g ∈ pre, g ≠ 0)
    (hempty : ∀ g ∈ pre, (s.fmt g).entryCount = 0) : (s.visited fails pre).poolFree +
      (pre.map fun g => ((s.visited fails (pre ++ post)).fmt g).entryCount).sum = s.poolFree := by
  induction pre generalizing s with
  | nil => rfl
  | cons f pre ih =>
    obtain ⟨hf, hzero⟩ := List.forall_mem_cons.1 hzero
    obtain ⟨hfempty, hempty⟩ := List.forall_mem_cons.1 hempty
    rw [List.cons_append, List.nodup_cons] at hnodup
    obtain ⟨hout, hnodup⟩ := hnodup
    have hstays (g : FormatNo) (hg : g ∈ pre) : (s.scanArea fails f).fmt g = s.fmt g :=
      (scanArea_other fun e => hout (by rw [← e]; exact List.mem_append_left _ hg)).1
    have hrest := ih (s := s.scanArea fails f) hnodup hzero fun g hg => by rw [hstays g hg]; exact hempty g hg
    have hlast := (visited_other (s := s.scanArea fails f) (fails := fails) hout).1
    have hpool := scanArea_pool (fails := fails) hf hfempty
    rw [visited_cons, List.map_cons, List.sum_cons, List.cons_append, visited_cons, hlast]
    omega

/-- The flags after the visits: STORE where one of them found something written that it did not restore (R18). -/
theorem visited_flagged (hzero : ∀ g ∈ fs, g ≠ 0) (fl : Flag) : (s.visited fails fs).flagged fl = true ↔
    s.flagged fl = true ∨ fl = .store ∧ ∃ pre g post, fs = pre ++ g :: post ∧
      (s.visited fails pre).areas[g] ≠ .blank ∧
      ¬ (s.visited fails pre).areas[g].FitsIn (s.visited fails pre).poolFree := by
  induction fs generalizing s with
  | nil => simp
  | cons f fs ih =>
    obtain ⟨hf, hzero⟩ := List.forall_mem_cons.1 hzero
    rw [visited_cons, ih hzero]
    have hfirst : (s.scanArea fails f).flagged fl = true ↔
        s.flagged fl = true ∨ fl = .store ∧ s.areas[f] ≠ .blank ∧ ¬ s.areas[f].FitsIn s.poolFree := by
      by_cases hfit : s.areas[f].FitsIn s.poolFree
      · obtain ⟨r, ha, hle⟩ := id hfit
        rw [(scanArea_restores (fails := fails) hf ha hle).2.2.2.2]
        exact ⟨.inl, fun h => h.resolve_right fun hbad => hbad.2.2 hfit⟩
      · obtain ⟨-, -, -, -, hflags⟩ := scanArea_erases (fails := fails) hf hfit
        rw [hflags]
        tauto
    rw [hfirst, or_assoc]
    refine or_congr_right ⟨?_, ?_⟩
    · rintro (⟨hfl, hbad⟩ | ⟨hfl, pre, g, post, rfl, hbad⟩)
      · exact ⟨hfl, [], f, fs, rfl, hbad⟩
      · exact ⟨hfl, f :: pre, g, post, rfl, hbad⟩
    · rintro ⟨hfl, pre, g, post, hsplit, hbad⟩
      cases pre with
      | nil =>
        cases hsplit
        exact .inl ⟨hfl, hbad⟩
      | cons f' pre =>
        cases hsplit
        exact .inr ⟨hfl, pre, g, post, rfl, hbad⟩

end Sys2Proof.Machine
end

/-! ## The start-up scan (R17, R18) -/

section
namespace Sys2Proof.Machine

variable {s t : State} {f g : FormatNo} {fails pre post : List FormatNo}

/-- The part when the visits begin: the table cleared, the generations from theirs (R18). -/
def State.scanStart (s : State) : State :=
  ({ s with
      stage := .scanning
      formats := Vector.replicate 32 FormatRecord.blank
      poolFree := 2048
      gens := if s.genTableGood then s.genTable else Vector.replicate 32 0 } : State).raiseIf (!s.genTableGood) .store

theorem startUpScan_eq : s.startUpScan fails = s.scanStart.visited fails ((List.finRange 32).drop 1) := rfl

theorem scanStart_fmt (hf : f ≠ 0) : s.scanStart.fmt f = .blank := by
  rw [State.fmt_of_ne _ hf]
  simp [State.scanStart]

theorem scanStart_genOf (hf : f ≠ 0) : s.scanStart.genOf f = if s.genTableGood then s.genTable[f] else 0 := by
  rw [State.genOf_of_ne _ hf]
  cases hg : s.genTableGood <;> simp [State.scanStart, hg]

theorem scanStart_flagged (fl : Flag) :
    s.scanStart.flagged fl = true ↔ s.flagged fl = true ∨ s.genTableGood = false ∧ fl = .store := by
  rw [State.scanStart, State.raiseIf_flagged]
  cases s.genTableGood <;> simp [State.flagged]

/-- All 32 numbers in order: F0, then those the scan visits. -/
theorem finRange_eq_cons : List.finRange 32 = (0 : FormatNo) :: (List.finRange 32).drop 1 := by decide

theorem finRange_sorted : (List.finRange 32).Pairwise (· < ·) := by decide

/-- In an ascending list the elements below one are those before it. -/
theorem filter_lt_of_sorted (h : (pre ++ f :: post).Pairwise (· < ·)) :
    (pre ++ f :: post).filter (· < f) = pre := by
  obtain ⟨-, hpost, hacross⟩ := List.pairwise_append.1 h
  obtain ⟨hafter, -⟩ := List.pairwise_cons.1 hpost
  have hpre : pre.filter (· < f) = pre :=
    List.filter_eq_self.2 fun g hg => decide_eq_true (hacross g hg f (List.mem_cons_self ..))
  have hrest : (f :: post).filter (· < f) = [] := by
    refine List.filter_eq_nil_iff.2 fun g hg => ?_
    rcases List.mem_cons.1 hg with rfl | hg
    · simp
    · simpa using (hafter g hg).le
  rw [List.filter_append, hpre, hrest, List.append_nil]

/-- When the scan comes to `f`, its record and area are as at the start, the numbers below `f` hold what they hold in the
end, and the rest of the pool is free. -/
theorem scan_before (hsplit : (List.finRange 32).drop 1 = pre ++ f :: post) :
    (s.scanStart.visited fails pre).poolFree + entriesBelow (s.startUpScan fails) f = 2048 ∧
    (s.scanStart.visited fails pre).fmt f = s.scanStart.fmt f ∧
    (s.scanStart.visited fails pre).genOf f = s.scanStart.genOf f ∧
    (s.scanStart.visited fails pre).areas[f] = s.areas[f] ∧
    (s.startUpScan fails).fmt f = ((s.scanStart.visited fails pre).scanArea fails f).fmt f ∧
    (s.startUpScan fails).genOf f = ((s.scanStart.visited fails pre).scanArea fails f).genOf f ∧
    (s.startUpScan fails).areas[f] = ((s.scanStart.visited fails pre).scanArea fails f).areas[f] := by
  have hall : List.finRange 32 = (0 :: pre) ++ f :: post := finRange_eq_cons.trans (congrArg (0 :: ·) hsplit)
  have hsorted : ((0 :: pre) ++ f :: post).Pairwise (· < ·) := hall ▸ finRange_sorted
  have hnodup : (pre ++ f :: post).Nodup := (List.nodup_cons.1 (hsorted.imp ne_of_lt)).2
  have hzero (g : FormatNo) (hg : g ∈ pre) : g ≠ 0 := by
    rw [List.cons_append, List.pairwise_cons] at hsorted
    exact ne_of_gt (hsorted.1 g (List.mem_append_left _ hg))
  obtain ⟨-, hfpost, hacross⟩ := List.nodup_append.1 hnodup
  obtain ⟨hafter, -⟩ := List.nodup_cons.1 hfpost
  have hbefore : f ∉ pre := fun hf => hacross f hf f (List.mem_cons_self ..) rfl
  obtain ⟨hfmt, hgen, harea⟩ := visited_other (s := s.scanStart) (fails := fails) hbefore
  have hpool := visited_pool (s := s.scanStart) (fails := fails) hnodup hzero fun g hg => by
    rw [scanStart_fmt (hzero g hg)]
    rfl
  have hstartArea : s.scanStart.areas[f] = s.areas[f] := by simp [State.scanStart]
  have hstartPool : s.scanStart.poolFree = 2048 := by simp [State.scanStart]
  have hbelow : entriesBelow (s.startUpScan fails) f =
      (pre.map fun g => ((s.scanStart.visited fails (pre ++ f :: post)).fmt g).entryCount).sum := by
    rw [entriesBelow, hall, filter_lt_of_sorted hsorted, startUpScan_eq, hsplit, List.map_cons, List.sum_cons,
      State.fmt_zero]
    exact Nat.zero_add _
  refine ⟨by rw [hbelow, hpool, hstartPool], hfmt, hgen, harea.trans hstartArea, ?_⟩
  rw [startUpScan_eq, hsplit, visited_append, visited_cons]
  exact visited_other hafter

/-- Every number but 0 is visited. -/
theorem exists_split (hf : f ≠ 0) : ∃ pre post, (List.finRange 32).drop 1 = pre ++ f :: post := by
  have hmem : f ∈ (0 : FormatNo) :: (List.finRange 32).drop 1 := finRange_eq_cons ▸ List.mem_finRange f
  exact List.append_of_mem ((List.mem_cons.1 hmem).resolve_left hf)

theorem drop_finRange_ne_zero : ∀ g ∈ (List.finRange 32).drop 1, g ≠ (0 : FormatNo) := by decide

theorem startUpScan_frame : s.startUpScan fails =
    { s with
      stage := .scanning
      formats := (s.startUpScan fails).formats
      gens := (s.startUpScan fails).gens
      poolFree := (s.startUpScan fails).poolFree
      areas := (s.startUpScan fails).areas
      attention := (s.startUpScan fails).attention } := by
  obtain ⟨F, G, P, A, B, h⟩ := visited_areasScanned fails ((List.finRange 32).drop 1) s.scanStart
  rw [startUpScan_eq, h]
  unfold State.scanStart State.raiseIf
  split <;> rfl

/-- The pool is rebuilt (R8, R18). -/
theorem startUpScan_pool : (s.startUpScan fails).poolFree + (s.startUpScan fails).heldEntries = 2048 := by
  have hnodup : ((List.finRange 32).drop 1 ++ ([] : List FormatNo)).Nodup := by decide
  have hpool := visited_pool (s := s.scanStart) (fails := fails) hnodup drop_finRange_ne_zero fun g hg => by
    rw [scanStart_fmt (drop_finRange_ne_zero g hg)]
    rfl
  rw [List.append_nil, ← startUpScan_eq] at hpool
  have hheld : (s.startUpScan fails).heldEntries =
      (((List.finRange 32).drop 1).map fun g => ((s.startUpScan fails).fmt g).entryCount).sum := by
    rw [State.heldEntries, finRange_eq_cons, List.map_cons, List.sum_cons, State.fmt_zero]
    exact Nat.zero_add _
  rw [hheld, hpool]
  simp [State.scanStart]

/-- A sealed area fits where the entries below leave room for it. -/
theorem fitsIn_iff {a : FormatArea} {free below : Nat} (h : free + below = 2048) :
    ¬ a.FitsIn free ↔ ∀ r, a = .sealed r → 2048 < (r.lists.toList.map List.length).sum + below := by
  have hcount (r : SealedRecord) : r.restored.entryCount = (r.lists.toList.map List.length).sum := rfl
  simp only [FormatArea.FitsIn, not_exists, not_and, hcount]
  exact forall₂_congr fun r _ => by omega

theorem exec_pinResetRelease (h : s.stage = .held) : exec (.pinResetRelease fails) s = .next (s.startUpScan fails) := by
  show execPinResetRelease fails s = _
  simp only [execPinResetRelease, h]

/-- Settles O7: the visit to a number finds the pool less what the numbers below hold, and its outcome stays. -/
theorem scanRestoresWhatIsSealed : Obligations.ScanRestoresWhatIsSealed := by
  unfold Obligations.ScanRestoresWhatIsSealed
  intro fails s hs
  refine ⟨_, exec_pinResetRelease hs, startUpScan_frame, startUpScan_pool, fun f r hf ha hroom => ?_,
    fun f hf hbad => ?_, fun fl hfl => ?_, ?_⟩
  · obtain ⟨pre, post, hsplit⟩ := exists_split hf
    obtain ⟨hpool, -, -, harea, hfmt, hgen, hlast⟩ := scan_before (s := s) (fails := fails) hsplit
    have hfit : r.restored.entryCount ≤ (s.scanStart.visited fails pre).poolFree := by
      change (r.lists.toList.map List.length).sum ≤ _
      omega
    obtain ⟨hfmt', hgen', hareas', -⟩ := scanArea_restores (fails := fails) hf (harea.trans ha) hfit
    exact ⟨hfmt.trans hfmt', hgen.trans hgen', by rw [hlast, hareas', harea]⟩
  · obtain ⟨pre, post, hsplit⟩ := exists_split hf
    obtain ⟨hpool, hfmt0, hgen0, harea, hfmt, hgen, hlast⟩ := scan_before (s := s) (fails := fails) hsplit
    have hfit : ¬ (s.scanStart.visited fails pre).areas[f].FitsIn (s.scanStart.visited fails pre).poolFree := by
      rw [harea]
      exact (fitsIn_iff hpool).2 hbad
    obtain ⟨hformats, hgens, -, hareas', -⟩ := scanArea_erases (fails := fails) hf hfit
    refine ⟨?_, ?_, ?_⟩
    · rw [hfmt, State.fmt_congr hformats, hfmt0, scanStart_fmt hf]
      rfl
    · rw [hgen, State.genOf_congr hgens, hgen0, scanStart_genOf hf]
    · rw [hlast, hareas', harea]
  · rw [Bool.eq_iff_iff, startUpScan_eq, visited_flagged drop_finRange_ne_zero, scanStart_flagged]
    simp [hfl]
  · rw [startUpScan_eq, visited_flagged drop_finRange_ne_zero, scanStart_flagged, or_assoc]
    simp only [and_true, true_and]
    refine or_congr_right (or_congr_right ⟨?_, ?_⟩)
    · rintro ⟨pre, f, post, hsplit, hwritten, hbad⟩
      obtain ⟨hpool, -, -, harea, -⟩ := scan_before (s := s) (fails := fails) hsplit
      rw [harea] at hwritten hbad
      have hf := drop_finRange_ne_zero f (by simp [hsplit])
      exact ⟨f, hf, hwritten, (fitsIn_iff hpool).1 hbad⟩
    · rintro ⟨f, hf, hwritten, hbad⟩
      obtain ⟨pre, post, hsplit⟩ := exists_split hf
      obtain ⟨hpool, -, -, harea, -⟩ := scan_before (s := s) (fails := fails) hsplit
      refine ⟨pre, f, post, hsplit, ?_⟩
      rw [harea]
      exact ⟨hwritten, (fitsIn_iff hpool).2 hbad⟩

end Sys2Proof.Machine
end

/-! ## FORMAT-SET (R3, R28) -/

section
namespace Sys2Proof.Machine

variable {s : State} {l : LinkId} {p : List Byte} {f : FormatNo} {c : EnrollContext}

/-! The tag, the settle window and the interval as stored. -/

theorem printable_iff (b : Byte) : printable b = true ↔ 0x20 ≤ b.toNat ∧ b.toNat ≤ 0x7E := by
  simp [printable]

/-- A character of the tag stands in the payload (section 11.6). -/
theorem tagOf_getElem? {j : Nat} (hlen : p.length = 17) (hj : j < (byteAt p 1).toNat) (hj' : j < 12) :
    (tagOf p)[j]? = some (byteAt p (2 + j)) := by
  rw [tagOf, List.getElem?_take_of_lt hj, List.getElem?_drop, byteAt_of_lt (by omega)]

theorem tagOf_length (hlen : p.length = 17) (h : (byteAt p 1).toNat ≤ 12) : (tagOf p).length = (byteAt p 1).toNat := by
  simp only [tagOf, List.length_take, List.length_drop]
  omega

theorem storedSettle_eq (sent : Nat) :
    storedSettle sent = if sent ≤ 5 then 5 else if 600 ≤ sent then 600 else 5 * ((sent + 4) / 5) := by
  unfold storedSettle
  split
  · omega
  · split <;> omega

theorem storedInterval_eq (sent : Nat) : storedInterval sent = if sent < 2 then 2 else sent := by
  unfold storedInterval
  split <;> omega

/-- The three fields and the idle timer, all else unchanged (R28). -/
theorem State.setFields_eq (hf : c.format ≠ 0) (tag : List Byte) (settle interval : Nat) :
    s.setFields c tag settle interval =
      { s with
        formats := s.formats.set c.format { s.fmt c.format with tag := tag, settle := settle, interval := interval }
        enroll := some { c with idle := some 120000 } } := by
  simp only [State.setFields, State.setFmt, if_neg hf]
  rfl

section
variable (hc : s.reachContext l (byteAt p 0) = .ok c) (ho : (s.fmt c.format).state ≠ .sealing)
include hc ho

theorem ownFormatSet_range (h : 12 < (byteAt p 1).toNat ∨ ∃ b ∈ tagOf p, printable b = false) :
    ownFormatSet l p s = (s, .reply .range []) := by
  have hbad : (tagLimit < (byteAt p 1).toNat || !(tagOf p).all printable) = true := by
    rw [Bool.or_eq_true, decide_eq_true_iff, Bool.not_eq_true', List.all_eq_false]
    exact h.imp_right fun ⟨b, hb, hp⟩ => ⟨b, hb, by simp [hp]⟩
  simp only [ownFormatSet, hc, if_neg ho, hbad, if_true]

theorem ownFormatSet_stores (hlen : (byteAt p 1).toNat ≤ 12) (hprint : ∀ b ∈ tagOf p, printable b = true) :
    ownFormatSet l p s =
      (s.setFields c (tagOf p) (storedSettle (half p 14).toNat) (storedInterval (byteAt p 16).toNat),
        .reply (if storedSettle (half p 14).toNat = (half p 14).toNat ∧
              storedInterval (byteAt p 16).toNat = (byteAt p 16).toNat then .done else .adjusted)
          (num1 (tagOf p).length ++ tagBytes (tagOf p) ++ num2 (storedSettle (half p 14).toNat) ++
            num1 (storedInterval (byteAt p 16).toNat))) := by
  have hgood : (tagLimit < (byteAt p 1).toNat || !(tagOf p).all printable) = false := by
    rw [Bool.or_eq_false_iff, decide_eq_false_iff_not, Bool.not_eq_false', List.all_eq_true]
    exact ⟨hlen.not_gt, hprint⟩
  simp only [ownFormatSet, hc, if_neg ho, hgood, Bool.false_eq_true, if_false, Bool.and_eq_true, beq_iff_eq]

end

/-- Settles O25: a tag that is too long or not printable, or the three fields as stored. -/
theorem formatSetStoresTheFields : Obligations.FormatSetStoresTheFields := by
  unfold Obligations.FormatSetStoresTheFields
  intro s l p f owns hlen hb
  obtain ⟨c, hc, rfl, rfl⟩ := reachContext_of_ownsOpen owns hb
  obtain ⟨hears, hf, ho, -⟩ := owns
  have hpass : s.screen c.owner .formatSet p = none :=
    State.screen_build (by decide) hears (by simp [lengthOk, hlen]) (.inr (by decide))
  refine ⟨fun hbad => ?_, fun tag sent settle interval hshort htag hprint hsent hsettle hinterval => ?_⟩
  · refine congrArg _ (State.serve_answers hears.1 hpass (ownFormatSet_range hc ho (hbad.imp_right ?_)))
    rintro ⟨j, hj, hj', hchar⟩
    refine ⟨_, List.mem_of_getElem? (tagOf_getElem? hlen hj hj'), Bool.eq_false_iff.2 fun hp => ?_⟩
    obtain ⟨hlo, hhi⟩ := (printable_iff _).1 hp
    omega
  · have hown := ownFormatSet_stores (s := s.serving c.owner 0x33) hc ho hshort
      (fun b hb => (printable_iff b).2 (hprint b (htag ▸ hb)))
    rw [storedSettle_eq, storedInterval_eq, ← hsent, ← hsettle, ← hinterval, State.setFields_eq hf,
      num1_of_val (tagOf_length hlen hshort).symm] at hown
    subst htag
    exact congrArg _ (State.serve_writes hears.1 hpass hown)

end Sys2Proof.Machine
end

/-! ## FORMAT-SEAL (R29) -/

section
namespace Sys2Proof.Machine

variable {s : State} {l : LinkId} {p : List Byte} {f : FormatNo} {c : EnrollContext}

/-- A record without participants has no entry (R7). -/
theorem participants_eq_zero_iff (r : FormatRecord) : r.participants = 0 ↔ ∀ k : SlotId, r.lists[k] = [] := by
  have hmem (k : SlotId) : r.participants.getLsbD k.val = true ↔ r.lists[k] ≠ [] := inSet_participants r k
  constructor
  · intro h k
    by_contra hne
    have hin := (hmem k).2 hne
    rw [h] at hin
    simp at hin
  · intro h
    refine BitVec.eq_of_getLsbD_eq fun i hi => ?_
    have hout := mt (hmem ⟨i, hi⟩).1 (not_not.2 (h ⟨i, hi⟩))
    simpa using hout

/-- SEALING, the timer suspended and the engine claimed, all else unchanged (R12, R29). -/
theorem State.beginSeal_eq (hf : c.format ≠ 0) : s.beginSeal l c =
    { s with
      formats := s.formats.set c.format { s.fmt c.format with state := .sealing }
      enroll := some { c with idle := none }
      engine := some { job := .seal c.format, claimant := some l } } := by
  simp only [State.beginSeal, State.setFmt, if_neg hf]

theorem ownFormatSeal_eq (hc : s.reachContext l (byteAt p 0) = .ok c) (ho : (s.fmt c.format).state ≠ .sealing) :
    ownFormatSeal l p s =
      if (s.fmt c.format).participants = 0 then (s, .reply .state [])
      else if s.engine.isSome then (s, .reply .busy [])
      else (s.beginSeal l c, .later) := by
  simp only [ownFormatSeal, hc, if_neg ho]

/-- Settles O26: the block's checks in the order of R29. -/
theorem formatSealClaimsTheEngine : Obligations.FormatSealClaimsTheEngine := by
  unfold Obligations.FormatSealClaimsTheEngine
  intro s l p f owns hfrozen hlen hb
  obtain ⟨c, hc, rfl, rfl⟩ := reachContext_of_ownsOpen owns hb
  obtain ⟨hears, hf, ho, -⟩ := owns
  have hpass : s.screen c.owner .formatSeal p = none :=
    State.screen_build (by decide) hears (by simp [lengthOk, hlen]) (.inl hfrozen)
  have hown := ownFormatSeal_eq (s := s.serving c.owner 0x34) hc ho
  have hholds (h : ∃ k : SlotId, (s.fmt c.format).lists[k] ≠ []) :
      ((s.serving c.owner 0x34).fmt c.format).participants ≠ 0 := fun hzero => by
    obtain ⟨k, hk⟩ := h
    exact hk ((participants_eq_zero_iff _).1 hzero k)
  refine ⟨fun hempty => ?_, fun h hbusy => ?_, fun h hidle => ?_⟩
  · have hzero : ((s.serving c.owner 0x34).fmt c.format).participants = 0 := (participants_eq_zero_iff _).2 hempty
    rw [if_pos hzero] at hown
    exact congrArg _ (State.serve_answers hears.1 hpass hown)
  · rw [if_neg (hholds h), if_pos (by exact hbusy)] at hown
    exact congrArg _ (State.serve_answers hears.1 hpass hown)
  · have hfree : ¬ (s.serving c.owner 0x34).engine.isSome = true := by
      show ¬ s.engine.isSome = true
      rw [hidle]
      decide
    rw [if_neg (hholds h), if_neg hfree, State.beginSeal_eq hf] at hown
    exact congrArg _ (State.serve_later hears.1 hpass hown)

end Sys2Proof.Machine
end

/-! ## FORMAT-DISCARD and the idle expiry (R22, R33) -/

section
namespace Sys2Proof.Machine

variable {s : State} {l : LinkId} {p : List Byte} {f : FormatNo} {c : EnrollContext}

/-- The record EMPTY and its entries in the pool, all else unchanged. -/
theorem State.emptyFormat_eq (hf : f ≠ 0) : s.emptyFormat f =
    { s with formats := s.formats.set f .blank, poolFree := s.poolFree + (s.fmt f).entryCount } := by
  simp only [State.emptyFormat, State.setFmt, if_neg hf]

theorem State.discard_eq (hf : c.format ≠ 0) : s.discard c = discarded s s c.format := by
  rw [State.discard, State.emptyFormat_eq hf]
  rfl

theorem ownFormatDiscard_eq (hc : s.reachContext l (byteAt p 0) = .ok c) (ho : (s.fmt c.format).state ≠ .sealing)
    (hf : c.format ≠ 0) : ownFormatDiscard l p s =
      (discarded s s c.format, .reply .done (num2 (s.poolFree + (s.fmt c.format).entryCount))) := by
  simp only [ownFormatDiscard, hc, if_neg ho, State.discard_eq hf]
  rfl

/-- The idle timer of the context has run out (R22). -/
theorem exec_idleTimerExpiry_over (hf : f ≠ 0) (he : s.enroll = some { format := f, owner := l, idle := some 0 }) :
    exec .idleTimerExpiry s = .next (discarded s s f) := by
  show execIdleTimerExpiry s = _
  simp only [execIdleTimerExpiry, he]
  rw [State.discard_eq hf]

theorem exec_idleTimerExpiry_early (h : ∀ c, s.enroll = some c → c.idle ≠ some 0) : exec .idleTimerExpiry s = .next s := by
  show execIdleTimerExpiry s = _
  unfold execIdleTimerExpiry
  split
  · rename_i he
    exact absurd rfl (h _ he)
  · rfl

/-- Settles O28: the owner's request, then the expiry. -/
theorem discardAndIdleExpiryFreeTheFormat : Obligations.DiscardAndIdleExpiryFreeTheFormat := by
  unfold Obligations.DiscardAndIdleExpiryFreeTheFormat
  refine ⟨fun s l p f owns hlen hb => ?_, fun s f l hf he => exec_idleTimerExpiry_over hf he,
    fun s => exec_idleTimerExpiry_early⟩
  obtain ⟨c, hc, rfl, rfl⟩ := reachContext_of_ownsOpen owns hb
  obtain ⟨hears, hf, ho, -⟩ := owns
  have hpass : s.screen c.owner .formatDiscard p = none :=
    State.screen_build (by decide) hears (by simp [lengthOk, hlen]) (.inr (by decide))
  exact congrArg _ (State.serve_writes hears.1 hpass (ownFormatDiscard_eq (s := s.serving c.owner 0x35) hc ho hf))

end Sys2Proof.Machine
end

/-! ## FORMAT-RETIRE (R9, R10, R34, R52, R109) -/

section
namespace Sys2Proof.Machine

variable {s : State} {l m : LinkId} {p : List Byte} {f : FormatNo} {v : Verification}

/-- A storable number is pinned by the active format, a changeover's target or a return format (R10, R109). -/
theorem pinned_iff (hf : f ≠ 0) : s.pinned f = true ↔ s.active = f ∨
    (∃ c, s.line.changeover? = some c ∧ c.target = f) ∨ ∃ kept g, s.line = .service kept f g := by
  unfold State.pinned
  cases s.line <;> simp [hf, Line.changeover?]

theorem ownFormatRetire_range (h : byteAt p 0 = 0 ∨ 31 < (byteAt p 0).toNat) :
    ownFormatRetire l p s = (s, .reply .range []) := by
  simp only [ownFormatRetire, storableOf_none h]

/-- FORMAT-RETIRE of a storable number, in the order of R34. -/
theorem ownFormatRetire_eq (hf : f ≠ 0) (hb : (byteAt p 0).toNat = f.val) : ownFormatRetire l p s =
    if (s.fmt f).state ≠ .sealed then (s, .reply .state [])
    else if s.pinned f then (s, .reply .state [])
    else if s.engine.isSome then (s, .reply .busy [])
    else (s.beginRetire l f, .later) := by
  simp only [ownFormatRetire, storableOf_of_val hf hb]

/-- The record EMPTY, the engine claimed and the comparator's view of it lost, all else unchanged (R9, R34). -/
theorem State.beginRetire_eq (hf : f ≠ 0) : s.beginRetire l f =
    { s with
      formats := s.formats.set f .blank
      poolFree := s.poolFree + (s.fmt f).entryCount
      engine := some { job := .retireErase f, claimant := some l }
      buffers := Vector.ofFn fun j => s.loseList f j
      freeIndex := s.freeIndex + 1 } := by
  rw [State.beginRetire, State.emptyFormat_eq hf]

theorem ofFn_buffer (g : LinkId → Buffer) (m : LinkId) : (Vector.ofFn g)[m] = g m := Vector.getElem_ofFn ..

/-- A buffer that verifies nothing of the number, or has lost its list before, is left alone (R9). -/
theorem loseList_other (h : ∀ v, s.buffers[m] = .verifying v → v.format ≠ f ∨ v.lost ≠ none) :
    s.loseList f m = s.buffers[m] := by
  unfold State.loseList
  split
  · rename_i v hb
    rw [hb, if_neg (not_and_or.2 (h v hb))]
  · rename_i hb
    exact hb.symm
  · rename_i hb
    exact hb.symm

/-- A verification of the number keeps what its walk has classed: nothing unless it is under comparison (R9, log 15). -/
theorem loseList_verifying (hb : s.buffers[m] = .verifying v) (hf : v.format = f) (hl : v.lost = none) :
    (s.comparing ≠ some m → s.loseList f m = .verifying { v with lost := some ([], v.manifest) }) ∧
    (s.comparing = some m → ∃ n : Nat, s.loseList f m =
      .verifying { v with lost := some (walk n (s.fmt f).lists[v.slot] v.manifest) }) := by
  simp only [State.loseList, hb, hf, hl, and_self, if_true]
  exact ⟨fun h => by rw [if_neg h], fun h => ⟨_, by rw [if_pos h]⟩⟩

/-- What is left of the manifest is EXTRA (R52). -/
theorem sequenceOf_lost {classed : List ClassRecord} {rest : List ManifestEntry} (h : v.lost = some (classed, rest)) :
    s.sequenceOf v = classed ++ rest.map (fun e => ClassRecord.mk e.id .extra none .manifestOnly) := by
  simp only [State.sequenceOf, h]
  rfl

/-- Settles O29: the block's checks in the order of R34, then what it leaves of each buffer. -/
theorem formatRetireFreesAnUnpinnedFormat : Obligations.FormatRetireFreesAnUnpinnedFormat := by
  unfold Obligations.FormatRetireFreesAnUnpinnedFormat
  intro s l p hears hfrozen hlen
  have hpass : s.screen l .formatRetire p = none :=
    State.screen_passes (by simp [lengthOk, hlen]) (by rw [hears.2]; rfl) rfl (.inl hfrozen)
  refine ⟨fun h => congrArg _ (State.serve_answers hears.1 hpass (ownFormatRetire_range h)), fun f hf hb => ?_⟩
  have hown := ownFormatRetire_eq (s := s.serving l 0x36) (l := l) hf hb
  refine ⟨fun hstate => ?_, fun hsealed hpin => ?_, fun hsealed hactive htarget hreturn => ?_⟩
  · rw [if_pos (by exact hstate)] at hown
    exact congrArg _ (State.serve_answers hears.1 hpass hown)
  · rw [if_neg (not_not.2 (by exact hsealed)), if_pos ((pinned_iff hf).2 (by exact hpin))] at hown
    exact congrArg _ (State.serve_answers hears.1 hpass hown)
  · have hfree : ¬ (s.serving l 0x36).pinned f = true := by
      rw [pinned_iff hf]
      rintro (h | ⟨c, hc, h⟩ | ⟨kept, g, h⟩)
      · exact hactive h
      · exact htarget c hc h
      · exact hreturn kept g h
    rw [if_neg (not_not.2 (by exact hsealed)), if_neg hfree] at hown
    refine ⟨fun hbusy => ?_, fun hidle => ⟨(s.serving l 0x36).beginRetire l f, ?_, ?_, fun m => ?_,
      fun u v classed rest => sequenceOf_lost⟩⟩
    · rw [if_pos (by exact hbusy)] at hown
      exact congrArg _ (State.serve_answers hears.1 hpass hown)
    · have hfree : ¬ (s.serving l 0x36).engine.isSome = true := by
        show ¬ s.engine.isSome = true
        rw [hidle]
        decide
      rw [if_neg hfree] at hown
      exact congrArg _ (State.serve_later hears.1 hpass hown)
    · rw [State.beginRetire_eq hf]
      rfl
    · have hbuffer : ((s.serving l 0x36).beginRetire l f).buffers[m] = s.loseList f m := by
        rw [State.beginRetire_eq hf]
        exact ofFn_buffer ..
      rw [hbuffer]
      exact ⟨loseList_other, fun v => loseList_verifying⟩

end Sys2Proof.Machine
end

/-! ## PLAN-WRITE (R16, R110, R153) -/

section
namespace Sys2Proof.Machine

variable {s : State} {l : LinkId} {p : List Byte} {plan : Plan}

/-- The role of a link in the layout of section 11.7. -/
theorem roleOf_eq_some {a b : Byte} {r : Role} : roleOf a b = some r ↔ (a = 0 ∧ r = .unbound) ∨
    (a = 1 ∧ r = .engineering) ∨ (a = 2 ∧ r = .supervisor) ∨ ∃ k : SlotId, a = 3 ∧ b.toNat = k.val ∧ r = .controller k := by
  have hslot (k : SlotId) : slotOf b = some k ↔ b.toNat = k.val := by
    refine ⟨fun h => ?_, slotOf_of_val⟩
    unfold slotOf at h
    split at h
    · cases h
      rfl
    · cases h
  unfold roleOf
  split
  · rename_i h
    simp [h, eq_comm]
  · split
    · rename_i h
      simp [h, eq_comm]
    · split
      · rename_i h
        simp [h, eq_comm]
      · split
        · rename_i h
          simp only [Option.map_eq_some_iff, hslot, h, true_and]
          simp [eq_comm]
        · simp_all

/-- The payload spells a plan when each of its eight pairs spells the link's role. -/
theorem planOf_eq_some : planOf p = some plan ↔
    ∀ l : LinkId, roleOf (byteAt p (2 * l.val)) (byteAt p (2 * l.val + 1)) = some plan[l] := by
  constructor
  · intro h l
    simp only [planOf, Option.bind_eq_bind, Option.bind_eq_some_iff, Option.pure_def, Option.some.injEq] at h
    obtain ⟨r0, h0, r1, h1, r2, h2, r3, h3, r4, h4, r5, h5, r6, h6, r7, h7, rfl⟩ := h
    fin_cases l
    · exact h0
    · exact h1
    · exact h2
    · exact h3
    · exact h4
    · exact h5
    · exact h6
    · exact h7
  · intro h
    have hpair (i : Nat) (hi : i < 8) : roleOf (byteAt p (2 * i)) (byteAt p (2 * i + 1)) = some plan[i] := h ⟨i, hi⟩
    have h0 := hpair 0 (by decide)
    have h1 := hpair 1 (by decide)
    have h2 := hpair 2 (by decide)
    have h3 := hpair 3 (by decide)
    have h4 := hpair 4 (by decide)
    have h5 := hpair 5 (by decide)
    have h6 := hpair 6 (by decide)
    have h7 := hpair 7 (by decide)
    simp only [Nat.mul_zero, Nat.zero_add, Nat.mul_one, Nat.reduceMul, Nat.reduceAdd] at h0 h1 h2 h3 h4 h5 h6 h7
    simp only [planOf, h0, h1, h2, h3, h4, h5, h6, h7]
    refine congrArg some (Vector.ext fun i hi => ?_)
    match i, hi with
    | 0, _ | 1, _ | 2, _ | 3, _ | 4, _ | 5, _ | 6, _ | 7, _ => rfl

theorem planOf_iff_plans : planOf p = some plan ↔ plans p plan :=
  planOf_eq_some.trans (forall_congr' fun _ => roleOf_eq_some)

/-- PLAN-WRITE of a plan within the limits of R16, in the order of R153. -/
theorem ownPlanWrite_eq (hplan : plans p plan) (hlegal : plan.Legal) : ownPlanWrite l p s =
    if s.enroll.isSome then (s, .reply .busy [])
    else if s.engine.isSome then (s, .reply .busy [])
    else (s.beginPlanWrite l plan, .later) := by
  simp only [ownPlanWrite, planOf_iff_plans.2 hplan, (planOk_iff plan).2 hlegal, Bool.not_true, Bool.false_eq_true,
    if_false]

/-- Settles O31: the block's checks in the order of R153. -/
theorem planWriteClaimsTheEngine : Obligations.PlanWriteClaimsTheEngine := by
  unfold Obligations.PlanWriteClaimsTheEngine
  intro s l p hears hline hfrozen hlen
  have hpass : s.screen l .planWrite p = none :=
    State.screen_passes (by simp [lengthOk, hlen]) (by rw [hears.2]; rfl) (by rw [hline]; rfl) (.inl hfrozen)
  have answers {r : Result} (ho : ownPlanWrite l p (s.serving l 0x39) = (s.serving l 0x39, .reply r [])) :
      exec (.planWrite l p) s = .next (s.answered l 0x39 r []) :=
    congrArg _ (State.serve_answers hears.1 hpass ho)
  refine ⟨fun hbad => answers ?_, fun plan hplan hlegal => ⟨fun hbusy => answers ?_, fun hclosed hidle => ?_⟩⟩
  · cases hp : planOf p with
    | none => simp only [ownPlanWrite, hp]
    | some plan =>
      have hrefused : planOk plan = false :=
        Bool.eq_false_iff.2 fun hok => hbad plan (planOf_iff_plans.1 hp) ((planOk_iff plan).1 hok)
      simp only [ownPlanWrite, hp, hrefused, Bool.not_false, if_true]
  · rw [ownPlanWrite_eq hplan hlegal]
    split
    · rfl
    · rename_i hclosed
      have hclaimed : (s.serving l 0x39).engine.isSome = true := hbusy.resolve_left hclosed
      rw [if_pos hclaimed]
  · have hfree : (s.serving l 0x39).enroll = none ∧ (s.serving l 0x39).engine = none := ⟨hclosed, hidle⟩
    have hown := ownPlanWrite_eq (s := s.serving l 0x39) (l := l) hplan hlegal
    rw [hfree.1, hfree.2, if_neg (by decide), if_neg (by decide)] at hown
    exact congrArg _ (State.serve_later hears.1 hpass hown)

end Sys2Proof.Machine
end

/-! ## The response at the end of an engine operation (R12) -/

section
namespace Sys2Proof.Machine

variable {s t : State} {c : Option LinkId} {kind : Byte} {r : Result} {payload : List Byte} {f : FormatNo}

/-- The claimant is answered over whatever the end of the operation has written, if the links are as they were. -/
theorem respondTo_concluded (h : s.AwaitsClaim c kind) (hl : t.links = s.links) :
    t.respondTo c r payload = t.concluded c kind r payload := by
  refine State.respondTo_eq fun l hc => ?_
  rw [State.Awaits, State.link_congr hl]
  exact h l hc

end Sys2Proof.Machine
end

/-! ## The end of a seal (R13, R31, R32) -/

section
namespace Sys2Proof.Machine

variable {s t : State} {c : Option LinkId} {f g : FormatNo} {o : SealOutcome}

theorem exec_sealCompletion_none (h : ∀ f c, s.engine ≠ some { job := .seal f, claimant := c }) :
    exec (.sealCompletion o) s = .next s := by
  show execSealCompletion o s = _
  unfold execSealCompletion
  split
  · rename_i f c he
    exact absurd he (h f c)
  · rfl

theorem exec_sealCompletion (he : s.engine = some { job := .seal f, claimant := c }) : exec (.sealCompletion o) s =
    if sealMarked o then
      .next ((((s.sealSteps f (sealStepsKept o)).finishSeal f).raiseIf (o == .tableFailed) .store).respondTo c .done
        (num1 f.val ++ bytes2 (nextGen (s.genOf f))))
    else .next (((s.sealSteps f (sealStepsKept o)).failSeal f).respondTo c .storeFault []) := by
  show execSealCompletion o s = _
  simp only [execSealCompletion, he]

/-- The record SEALED under its next generation, the context closed, the engine idle, SEAL set (R31). -/
theorem State.finishSeal_eq (hf : f ≠ 0) : s.finishSeal f =
    { s with
      formats := s.formats.set f { s.fmt f with state := .sealed }
      gens := s.gens.set f (nextGen (s.genOf f))
      enroll := none
      engine := none
      attention := s.attention ||| 0x008 } := by
  simp only [State.finishSeal, State.setFmt, State.setGen, if_neg hf]
  rfl

/-- The record OPEN again, its timer at 120 s, the engine idle, STORE set (R32). -/
theorem State.failSeal_eq (hf : f ≠ 0) : s.failSeal f =
    { s with
      formats := s.formats.set f { s.fmt f with state := .opened }
      enroll := s.enroll.map (fun x => { x with idle := some 120000 })
      engine := none
      attention := s.attention ||| 0x100 } := by
  simp only [State.failSeal, State.setFmt, if_neg hf]
  rfl

/-- The part after a seal that went through (R13, R31). -/
theorem sealed_eq (hf : f ≠ 0) : ((s.sealSteps f 4).finishSeal f).raiseIf (SealOutcome.success == .tableFailed) .store =
    { s with
      formats := s.formats.set f { s.fmt f with state := .sealed }
      gens := s.gens.set f (nextGen (s.genOf f))
      enroll := none
      engine := none
      attention := s.attention ||| 0x008
      areas := s.areas.set f (.sealed (s.recordToSeal f))
      genTable := s.genTable.set f (nextGen (s.genOf f))
      genTableGood := s.genTableGood || Config.tableCheckAfterWrite s.freeIndex
      freeIndex := s.freeIndex + 1 } := by
  rw [State.finishSeal_eq hf]
  simp only [State.sealSteps, State.setArea, if_neg hf, State.writeGenTable]
  rfl

/-- The part after a seal whose last step, the generation table, failed (R13, R31). -/
theorem sealed_tableFailed_eq (hf : f ≠ 0) :
    ((s.sealSteps f 3).finishSeal f).raiseIf (SealOutcome.tableFailed == .tableFailed) .store =
    { s with
      formats := s.formats.set f { s.fmt f with state := .sealed }
      gens := s.gens.set f (nextGen (s.genOf f))
      enroll := none
      engine := none
      attention := s.attention ||| 0x108
      areas := s.areas.set f (.sealed (s.recordToSeal f)) } := by
  have hflags : s.attention ||| 0x108 = s.attention ||| 0x008 ||| BitVec.twoPow 9 Flag.store.bit :=
    (congrArg (s.attention ||| ·) (by decide : (0x108 : BitVec 9) = 0x008 ||| BitVec.twoPow 9 Flag.store.bit)).trans
      (BitVec.or_assoc ..).symm
  rw [State.finishSeal_eq hf, hflags]
  simp only [State.sealSteps, State.setArea, if_neg hf]
  rfl

/-- Without the seal mark the storage has changed in the record's own area alone (R32). -/
theorem unsealed_eq (hf : f ≠ 0) (h : sealMarked o = false) : ∃ A : Vector FormatArea 32,
    (s.sealSteps f (sealStepsKept o)).failSeal f = { s with
      formats := s.formats.set f { s.fmt f with state := .opened }
      enroll := s.enroll.map (fun x => { x with idle := some 120000 })
      engine := none
      attention := s.attention ||| 0x100
      areas := A } ∧ ∀ g : FormatNo, g ≠ f → A[g] = s.areas[g] := by
  rw [State.failSeal_eq hf]
  cases o with
  | success | tableFailed => cases h
  | eraseFailed => exact ⟨s.areas, rfl, fun _ _ => rfl⟩
  | writeFailed | markFailed =>
    have hsteps : s.sealSteps f 2 = { s with areas := s.areas.set f .written } := by
      simp only [State.sealSteps, State.setArea, if_neg hf]
    refine ⟨s.areas.set f .written, ?_, fun g hg => ?_⟩
    · rw [sealStepsKept, hsteps]
      rfl
    · exact Vector.getElem_set_ne f.isLt g.isLt fun e => hg (Fin.ext e.symm)

/-- Settles O27: the storage steps that were done, then the record, the context and the engine, then the response. -/
theorem sealCompletionEndsTheSeal : Obligations.SealCompletionEndsTheSeal := by
  unfold Obligations.SealCompletionEndsTheSeal
  refine ⟨fun o s => exec_sealCompletion_none, fun s f c g hf he hc hg => ⟨fun o ho => ?_, fun o ho => ?_⟩⟩
  · obtain rfl : g = nextGen (s.genOf f) := hg
    simp only [List.mem_cons, List.not_mem_nil, or_false] at ho
    rcases ho with rfl | rfl
    · have heq := sealed_eq (s := s) hf
      refine ⟨_, (exec_sealCompletion he).trans (if_pos rfl), ?_⟩
      rw [sealStepsKept, respondTo_concluded (t := ((s.sealSteps f 4).finishSeal f).raiseIf _ .store) hc (by rw [heq]), heq]
      cases c <;> exact ⟨rfl, fun hgood => by simp [State.concluded, State.completed, hgood]⟩
    · have heq := sealed_tableFailed_eq (s := s) hf
      refine ⟨_, (exec_sealCompletion he).trans (if_pos rfl), ?_⟩
      rw [sealStepsKept, respondTo_concluded (t := ((s.sealSteps f 3).finishSeal f).raiseIf _ .store) hc (by rw [heq]), heq]
      cases c <;> exact ⟨rfl, id⟩
  · have hbad : sealMarked o = false := by
      simp only [List.mem_cons, List.not_mem_nil, or_false] at ho
      rcases ho with rfl | rfl | rfl <;> rfl
    obtain ⟨A, hsteps, hothers⟩ := unsealed_eq (s := s) hf hbad
    refine ⟨_, (exec_sealCompletion he).trans (if_neg (by simp [hbad])), ?_⟩
    rw [respondTo_concluded (t := (s.sealSteps f (sealStepsKept o)).failSeal f) hc (by rw [hsteps]), hsteps]
    cases c <;> exact ⟨rfl, hothers⟩

end Sys2Proof.Machine
end

/-! ## The end of a retire-erase (R14, R35) -/

section
namespace Sys2Proof.Machine

variable {s : State} {c : Option LinkId} {f : FormatNo} {o : RetireOutcome}

theorem exec_retireEraseCompletion_none (h : ∀ f c, s.engine ≠ some { job := .retireErase f, claimant := c }) :
    exec (.retireEraseCompletion o) s = .next s := by
  show execRetireEraseCompletion o s = _
  unfold execRetireEraseCompletion
  split
  · rename_i f c he
    exact absurd he (h f c)
  · rfl

/-- Settles O30, outcome by outcome. -/
theorem retireEraseCompletionAnswers : Obligations.RetireEraseCompletionAnswers := by
  unfold Obligations.RetireEraseCompletionAnswers
  refine ⟨fun o s => exec_retireEraseCompletion_none, fun s f c hf he hc => ⟨?_, ?_, ?_⟩⟩
  · have hsteps : s.retireSteps f 2 = { s with areas := s.areas.set f .blank } := by
      simp only [State.retireSteps, State.setArea, if_neg hf]
    show execRetireEraseCompletion .success s = _
    simp only [execRetireEraseCompletion, he, hsteps]
    refine (congrArg Host.Outcome.next (respondTo_concluded hc ?_)).trans ?_
    · rfl
    · cases c <;> rfl
  · have hsteps : s.retireSteps f 1 = { s with areas := s.areas.set f .retired } := by
      simp only [State.retireSteps, State.setArea, if_neg hf]
    show execRetireEraseCompletion .eraseFailed s = _
    simp only [execRetireEraseCompletion, he, hsteps]
    refine (congrArg Host.Outcome.next (respondTo_concluded hc ?_)).trans ?_
    · rfl
    · cases c <;> rfl
  · show execRetireEraseCompletion .markFailed s = _
    simp only [execRetireEraseCompletion, he]
    refine (congrArg Host.Outcome.next (respondTo_concluded hc ?_)).trans ?_
    · rfl
    · cases c <;> rfl

end Sys2Proof.Machine
end

/-! ## The end of a plan write (R15, R72, R110, R152) -/

section
namespace Sys2Proof.Machine

variable {s : State} {l : LinkId} {c : Option LinkId} {plan : Plan} {o : PlanOutcome} {n : Nat}

theorem exec_planWriteCompletion_none (h : ∀ plan c, s.engine ≠ some { job := .planWrite plan, claimant := c }) :
    exec (.planWriteCompletion o) s = .next s := by
  show execPlanWriteCompletion o s = _
  unfold execPlanWriteCompletion
  split
  · rename_i plan c he
    exact absurd he (h plan c)
  · rfl

/-- The steps of a plan write change the two plan areas alone (R15). -/
theorem planSteps_frame (plan : Plan) (n : Nat) : s.planSteps plan n =
    { s with planA := (s.planSteps plan n).planA, planB := (s.planSteps plan n).planB } := by
  have hset (u : State) (i : PlanAreaId) (a : PlanArea) : ∃ A B, u.setPlanArea i a = { u with planA := A, planB := B } := by
    cases i
    · exact ⟨a, u.planB, rfl⟩
    · exact ⟨u.planA, a, rfl⟩
  have hsteps : ∃ A B, s.planSteps plan n = { s with planA := A, planB := B } := by
    unfold State.planSteps
    split
    · exact ⟨s.planA, s.planB, rfl⟩
    · exact hset ..
    · exact hset ..
    · exact hset ..
    · obtain ⟨A, B, h⟩ := hset s s.planTarget (.valid plan s.planTurn)
      rw [h]
      exact hset ..
  obtain ⟨A, B, h⟩ := hsteps
  rw [h]

/-- The part after a plan write whose valid mark was written, before the response. -/
def State.planBound (o : PlanOutcome) (plan : Plan) (s : State) : State :=
  ((({ s.planSteps plan (planStepsKept o) with planCurrent := some s.planTarget } : State).takePlan plan).endPlanWrite).raiseIf
    (o == .oldEraseFailed) .store

/-- The part after a plan write that failed, before the response. -/
def State.planFailed (o : PlanOutcome) (plan : Plan) (s : State) : State :=
  ((s.planSteps plan (planStepsKept o)).endPlanWrite).raise .store

theorem exec_planWriteCompletion (he : s.engine = some { job := .planWrite plan, claimant := c }) :
    exec (.planWriteCompletion o) s = if planMarked o then .next ((s.planBound o plan).respondTo c .done [])
      else .next ((s.planFailed o plan).respondTo c .storeFault []) := by
  show execPlanWriteCompletion o s = _
  simp only [execPlanWriteCompletion, he]
  rfl

/-- The plan, the marker, the assemblies and the storage; all else as it was (R72, R110, R152). -/
theorem planBound_eq (ho : o = .success ∨ o = .oldEraseFailed) : s.planBound o plan =
    { s with
      plan := plan
      planCurrent := some s.planTarget
      planA := (s.planSteps plan (planStepsKept o)).planA
      planB := (s.planSteps plan (planStepsKept o)).planB
      buffers := (s.takePlan plan).buffers
      planWaits := (s.takePlan plan).planWaits
      planWriting := false
      engine := none
      attention := if o = .success then s.attention else s.attention ||| 0x100 } := by
  rw [State.planBound, planSteps_frame]
  rcases ho with rfl | rfl <;> rfl

theorem planFailed_eq : s.planFailed o plan =
    { s with
      planA := (s.planSteps plan (planStepsKept o)).planA
      planB := (s.planSteps plan (planStepsKept o)).planB
      planWriting := false
      engine := none
      attention := s.attention ||| 0x100 } := by
  rw [State.planFailed, planSteps_frame]
  rfl

/-! The area and the turn of a plan write (R15). -/

theorem planTarget_eq : (s.planCurrent = some .a → s.planTarget = .b) ∧ (s.planCurrent ≠ some .a → s.planTarget = .a) := by
  unfold State.planTarget
  cases s.planCurrent with
  | none => exact ⟨nofun, fun _ => rfl⟩
  | some i => cases i <;> simp [PlanAreaId.other]

theorem planTurn_default (h : s.planCurrent = none) : s.planTurn = .one := (planTarget_default h).2

/-- The turn follows that of the current area (R15). -/
theorem planTurn_follows {old : Plan} {was : Turn}
    (h : (s.planCurrent = some .a ∧ s.planA = .valid old was) ∨ (s.planCurrent = some .b ∧ s.planB = .valid old was)) :
    (was = .one ∧ s.planTurn = .two) ∨ (was = .two ∧ s.planTurn = .three) ∨ (was = .three ∧ s.planTurn = .one) := by
  have hturn : s.planTurn = was.next := by
    rcases h with ⟨hc, hv⟩ | ⟨hc, hv⟩
    · exact (planTarget_current hc hv).2
    · exact (planTarget_current hc hv).2
  rw [hturn]
  exact was.next_cases

/-- A written plan stands in its area, and the old one is blank when its erase was done (R15). -/
theorem planSteps_written (hn : 3 ≤ n) :
    (s.planTarget = .a → (s.planSteps plan n).planA = .valid plan s.planTurn ∧
      (4 ≤ n → (s.planSteps plan n).planB = .blank)) ∧
    (s.planTarget = .b → (s.planSteps plan n).planB = .valid plan s.planTurn ∧
      (4 ≤ n → (s.planSteps plan n).planA = .blank)) := by
  obtain ⟨-, -, hvalid⟩ := planSteps_target (s := s) (plan := plan) (n := n)
  obtain ⟨-, hblank⟩ := planSteps_other (s := s) (plan := plan) (n := n)
  refine ⟨fun h => ?_, fun h => ?_⟩
  · rw [h] at hvalid hblank
    exact ⟨hvalid hn, hblank⟩
  · rw [h] at hvalid hblank
    exact ⟨hvalid hn, hblank⟩

/-- A plan write that fails leaves the area in force (R15). -/
theorem planSteps_keepsCurrent (hn : n ≤ 3) : (s.planCurrent = some .a → (s.planSteps plan n).planA = s.planA) ∧
    (s.planCurrent ≠ some .a → (s.planSteps plan n).planB = s.planB) := by
  obtain ⟨hkept, -⟩ := planSteps_other (s := s) (plan := plan) (n := n)
  obtain ⟨hb, ha⟩ := planTarget_eq (s := s)
  refine ⟨fun h => ?_, fun h => ?_⟩
  · rw [hb h] at hkept
    exact hkept hn
  · rw [ha h] at hkept
    exact hkept hn

/-! The links that a new plan changes (R72, R110). -/

theorem Buffer.isOpen_iff (b : Buffer) : b.isOpen = true ↔ ∃ d es, b = .assembling d es := by
  cases b <;> simp [Buffer.isOpen]

theorem linksWhere_getLsbD (g : LinkId → Bool) (l : LinkId) : (linksWhere g).getLsbD l.val = g l := by
  rw [linksWhere, BitVec.getLsbD_ofBoolListLE]
  match l with
  | 0 | 1 | 2 | 3 | 4 | 5 | 6 | 7 => rfl

/-- The marker waits for the verifications of the links that the plan changes (R110). -/
theorem takePlan_planWaits : (s.takePlan plan).planWaits.getLsbD l.val = true ↔
    s.planWaits.getLsbD l.val = true ∨ (s.plan[l] ≠ plan[l] ∧ ∃ v, s.buffers[l] = .verifying v) := by
  have hwaits : (s.takePlan plan).planWaits =
      s.planWaits ||| (s.rebound plan &&& linksWhere fun l => s.buffers[l].isVerifying) := rfl
  rw [hwaits, BitVec.getLsbD_or, BitVec.getLsbD_and, State.rebound, linksWhere_getLsbD, linksWhere_getLsbD,
    Bool.or_eq_true, Bool.and_eq_true, bne_iff_ne, Buffer.isVerifying_iff]

/-- Settles O32: the storage and the choice of the area, the links, then the response. -/
theorem planWriteCompletionBindsTheLinks : Obligations.PlanWriteCompletionBindsTheLinks := by
  unfold Obligations.PlanWriteCompletionBindsTheLinks
  refine ⟨fun o s => exec_planWriteCompletion_none, fun s plan c he hc => ⟨fun o ho => ?_, fun o ho => ?_⟩⟩
  · have ho' : o = .success ∨ o = .oldEraseFailed := by simpa using ho
    have hmarked : planMarked o = true := by rcases ho' with rfl | rfl <;> rfl
    have hsteps : 3 ≤ planStepsKept o := by rcases ho' with rfl | rfl <;> decide
    have hlast (h : o = .success) : 4 ≤ planStepsKept o := by rw [h]; decide
    obtain ⟨hwrittenA, hwrittenB⟩ := planSteps_written (s := s) (plan := plan) hsteps
    have heq := planBound_eq (s := s) (plan := plan) ho'
    refine ⟨_, (exec_planWriteCompletion he).trans (if_pos hmarked), ?_⟩
    rw [respondTo_concluded (t := s.planBound o plan) hc (by rw [heq]), heq]
    obtain ⟨t, ht, hcurrent, hA, hB, hbuffers, hwaits⟩ : ∃ t : State, t = State.concluded c 0x39 .done [] (s.planBound o plan) ∧
        t.planCurrent = some s.planTarget ∧ t.planA = (s.planSteps plan (planStepsKept o)).planA ∧
        t.planB = (s.planSteps plan (planStepsKept o)).planB ∧ t.buffers = (s.takePlan plan).buffers ∧
        t.planWaits = (s.takePlan plan).planWaits := by
      refine ⟨_, rfl, ?_⟩
      rw [heq]
      cases c <;> exact ⟨rfl, rfl, rfl, rfl, rfl⟩
    rw [← heq, ← ht]
    refine ⟨?_, fun h => ?_, fun h => ?_, ⟨s.planTurn, fun h => ?_, fun h => ?_, planTurn_default, fun old was => planTurn_follows⟩,
      fun l => ⟨fun hne hopen => ?_, fun hsame => ?_, ?_⟩⟩
    · subst ht
      rw [heq]
      cases c <;> rfl
    · rw [hcurrent, planTarget_eq.1 h]
    · rw [hcurrent, planTarget_eq.2 h]
    · rw [hA, hB]
      have htarget := Option.some.inj (hcurrent.symm.trans h)
      exact ⟨(hwrittenA htarget).1, fun hs => (hwrittenA htarget).2 (hlast hs)⟩
    · rw [hA, hB]
      have htarget := Option.some.inj (hcurrent.symm.trans h)
      exact ⟨(hwrittenB htarget).1, fun hs => (hwrittenB htarget).2 (hlast hs)⟩
    · rw [hbuffers, takePlan_buffer, if_pos ⟨hne, (Buffer.isOpen_iff _).2 hopen⟩]
    · rw [hbuffers, takePlan_buffer, if_neg]
      rintro ⟨hne, hopen⟩
      obtain ⟨d, es, hb⟩ := (Buffer.isOpen_iff _).1 hopen
      exact hsame.elim hne fun h => h d es hb
    · rw [hwaits]
      exact takePlan_planWaits
  · have hfailed : planMarked o = false ∧ planStepsKept o ≤ 3 := by
      simp only [List.mem_cons, List.not_mem_nil, or_false] at ho
      rcases ho with rfl | rfl | rfl <;> decide
    obtain ⟨hA, hB⟩ := planSteps_keepsCurrent (s := s) (plan := plan) hfailed.2
    have heq := planFailed_eq (s := s) (o := o) (plan := plan)
    refine ⟨_, (exec_planWriteCompletion he).trans (if_neg (by simp [hfailed.1])), ?_⟩
    rw [respondTo_concluded (t := s.planFailed o plan) hc (by rw [heq]), heq]
    cases c <;> exact ⟨rfl, hA, hB⟩

end Sys2Proof.Machine
end
